-- ==== Sys2Proof/Word.lean ====
section
/-! DEFINITION. The word types of the block (00_scope.md R6, R7): every register access moves one
32-bit word, a transmit-FIFO entry has 10 bits, everything on the wires is a byte. -/

namespace Sys2Proof

/-- One register word: "fixed-width read/write of a 32-bit word" (20_memory.md R61). -/
abbrev Word := BitVec 32

/-- One byte of a transfer, of the receive FIFO, or of the two 8-bit flag registers. -/
abbrev Byte := BitVec 8

/-- One transmit-FIFO entry: 8 data bits, start flag (bit 8), stop flag (bit 9) (10_state.md R29). -/
abbrev Entry := BitVec 10

/-- A 7-bit I2C address (30_encoding.md R98). -/
abbrev Address := BitVec 7

end Sys2Proof
end

