-- ==== Sys2Proof/Config.lean ====
section
/-! DEFINITION. What is fixed for one machine: the parameters of 00_scope.md R6 (a record that State
carries and no step changes, so that a claim about every state is a claim about every parameter
value), the active agents, and the free values the spec leaves open (opaque constants without a
body, applied to the draw counter of State). -/

namespace Sys2Proof

/-- The parameters of 00_scope.md R6 that the block's behaviour depends on, with the value the spec
takes by default. An OPEN parameter without a default has the value log entry 1 names. -/
structure Params where
  /-- `I2C_BASE`: control-space address of offset 0 (R63; OPEN, log entry 1). -/
  i2cBase : Nat := 0
  /-- `TX_DEPTH`: capacity of the transmit FIFO in entries. -/
  txDepth : Nat := 16
  /-- `RX_DEPTH`: capacity of the receive FIFO in bytes. -/
  rxDepth : Nat := 16
  /-- `RX_PIRQ_INIT`: the "fixed value" the prologue writes to the threshold register. -/
  rxPirqInit : Word := 0x0000000F#32
  /-- `ISR_RESET`: value of ISR[7:0] after reset. -/
  isrReset : Byte := 0x00#8
  /-- `SOFTR_CLEARS_GPO`: whether soft reset clears GPO. -/
  softrClearsGpo : Bool := false
  /-- `GPO_RESET_VALUE`: GPO after power-on reset. -/
  gpoResetValue : Word := 0x00000000#32
  /-- `EXT_BUSY_ALLOWED`: whether the environment may hold the bus busy. -/
  extBusyAllowed : Bool := true
  /-- `MULTI_MASTER`: whether the environment may win arbitration. -/
  multiMaster : Bool := false
  /-- `ARB_LOST_SETS_ERROR`: whether arbitration loss also sets ISR bit 1 (OPEN, log entry 1). -/
  arbLostSetsError : Bool := false
  /-- `ACCESS_CAN_FAIL`: whether the register access primitive may fail (R257). -/
  accessCanFail : Bool := false
  deriving DecidableEq, Repr

/-- The agents that execute steps (00_scope.md R2, R9). The controller's register side, the fifth
agent of R2, is passive and never moves by itself. -/
inductive Agent where
  /-- issues commands and raw accesses, acknowledges a fault, drives `rst` -/
  | host
  /-- executes one register access of the operation in flight -/
  | engine
  /-- one rule of 45_bus_side.md -/
  | bus
  /-- `EnvBusy` (45_bus_side.md R229) -/
  | env
  deriving DecidableEq, Repr, Inhabited

/-- Free value: the word drawn when a receive-FIFO read leaves bits unspecified (`draw_32`,
`draw_24`; 40_register_access.md R127; log entry 18). -/
opaque Config.freeWord : Nat → Word

/-- Free value: whether the environment acknowledges a byte (45_bus_side.md R228; log entry 4). -/
opaque Config.freeAck : Nat → Bool

/-- Free value: whether the environment wins arbitration, asked only under MULTI_MASTER (R219). -/
opaque Config.freeLost : Nat → Bool

/-- Free value: the byte the addressed slave sends next (`Env.rdata`, R228). -/
opaque Config.freeByte : Nat → Byte

/-- Free value: whether a register access fails, asked only under ACCESS_CAN_FAIL (R257). -/
opaque Config.freeFail : Nat → Bool

/-- Free value: which agent moves next under the free schedule (00_scope.md R9, R44). -/
opaque Config.freeAgent : Nat → Agent

end Sys2Proof
end

