-- ==== Sys2Proof/Syntax.lean ====
section
/-! DEFINITION. The operations of the block as data: one constructor of Instr per row of
spec/opcode_table.json, and what a host can present at the block's two interfaces before it is
decoded. -/

namespace Sys2Proof

/-- The registers that can be read, with 20_memory.md R62's access column: RD.x exists exactly for
these. -/
inductive RdReg where
  | isr | cr | sr | rxFifo | rxPirq | gpo
  deriving DecidableEq, Repr

/-- The registers that can be written: WR.x exists exactly for these. -/
inductive WrReg where
  | isr | softr | cr | txFifo | rxPirq | gpo
  deriving DecidableEq, Repr

/-- The operations of the opcode table (30_encoding.md R99, R100), in the table's order: twelve
register-port operations, seventeen commands, four pure functions. -/
inductive Instr where
  /-- `RD.ISR`, R124 -/
  | rdIsr
  /-- `WR.ISR`, R125 -/
  | wrIsr (w : Word)
  /-- `WR.SOFTR`, R129 -/
  | wrSoftr (w : Word)
  /-- `RD.CR`, R121 -/
  | rdCr
  /-- `WR.CR`, R122 -/
  | wrCr (w : Word)
  /-- `RD.SR`, R123 -/
  | rdSr
  /-- `WR.TX_FIFO`, R126 -/
  | wrTxFifo (w : Word)
  /-- `RD.RX_FIFO`, R127 -/
  | rdRxFifo
  /-- `RD.RX_PIRQ`, R130 -/
  | rdRxPirq
  /-- `WR.RX_PIRQ`, R128 -/
  | wrRxPirq (w : Word)
  /-- `RD.GPO`, R132 -/
  | rdGpo
  /-- `WR.GPO`, R131 -/
  | wrGpo (w : Word)
  /-- `readStatus`, R154 -/
  | readStatus
  /-- `readInterruptStatus`, R155 -/
  | readInterruptStatus
  /-- `resetInterruptStatus`, R156 -/
  | resetInterruptStatus
  /-- `enableDevice`, R161 -/
  | enableDevice
  /-- `disableDevice`, R162 -/
  | disableDevice
  /-- `startTransfer`, R163 -/
  | startTransfer
  /-- `endTransfer`, R164 -/
  | endTransfer
  /-- `enableGeneralCall`, R165 -/
  | enableGeneralCall
  /-- `disableGeneralCall`, R166 -/
  | disableGeneralCall
  /-- `resetTxFifo`, R167 -/
  | resetTxFifo
  /-- `clearTxFifoReset`, R168 -/
  | clearTxFifoReset
  /-- `enqueueWord`, R170 -/
  | enqueueWord (byte : Byte) (isStart isStop : Bool)
  /-- `dequeueWord`, R171 -/
  | dequeueWord
  /-- `INIT`, R179 -/
  | initDevice
  /-- `WRITE_REG`, R182: the payload is `data[0..count-1]` -/
  | writeReg (address : Address) (count : Byte) (data : List Byte)
  /-- `READ_REG`, R186 -/
  | readReg (address : Address) (count : Byte)
  /-- `READ_REG_SEL`, R190 -/
  | readRegSel (address : Address) (regindex count : Byte)
  /-- `getBit`, R150 -/
  | getBit (word : Word) (offset : BitVec 5)
  /-- `setBit`, R151 -/
  | setBit (word : Word) (offset : BitVec 5) (value : Bool)
  /-- `decodeStatus`, R152 -/
  | decodeStatus (r : Word)
  /-- `decodeISR`, R153 -/
  | decodeISR (r : Word)
  deriving DecidableEq, Repr

/-- Which of the three kinds of operation an instruction is (30_encoding.md R90, R99). -/
inductive InstrKind where
  /-- a register-port operation (REGOP), one atomic access -/
  | port
  /-- an engine operation started by a command word (CMD) -/
  | command
  /-- a pure function, no command word and no access (FN) -/
  | pureFn
  deriving DecidableEq, Repr

/-- The kind of each operation: the "format" column of the opcode table. -/
def Instr.kind : Instr → InstrKind
  | .rdIsr | .wrIsr _ | .wrSoftr _ | .rdCr | .wrCr _ | .rdSr | .wrTxFifo _ | .rdRxFifo | .rdRxPirq
  | .wrRxPirq _ | .rdGpo | .wrGpo _ => .port
  | .readStatus | .readInterruptStatus | .resetInterruptStatus | .enableDevice | .disableDevice
  | .startTransfer | .endTransfer | .enableGeneralCall | .disableGeneralCall | .resetTxFifo
  | .clearTxFifoReset | .enqueueWord _ _ _ | .dequeueWord | .initDevice | .writeReg _ _ _
  | .readReg _ _ | .readRegSel _ _ _ => .command
  | .getBit _ _ | .setBit _ _ _ | .decodeStatus _ | .decodeISR _ => .pureFn

/-- What a host presents before it is decoded: a REGOP pattern with its data word (30_encoding.md
R91; the 13-bit pattern in two whole bytes, log entry 15), or a command word with its payload
bytes (R96). -/
inductive Presented where
  | regop (pattern : BitVec 16) (data : Word)
  | cmd (word : Word) (payload : List Byte)
  deriving DecidableEq, Repr

/-- A call of one of the four pure functions, which have no encoding (30_encoding.md R99). -/
inductive FnCall where
  | getBit (word : Word) (offset : BitVec 5)
  | setBit (word : Word) (offset : BitVec 5) (value : Bool)
  | decodeStatus (r : Word)
  | decodeISR (r : Word)
  deriving DecidableEq, Repr

/-- The instruction a call of a pure function is. -/
def FnCall.toInstr : FnCall → Instr
  | .getBit w o => .getBit w o
  | .setBit w o v => .setBit w o v
  | .decodeStatus r => .decodeStatus r
  | .decodeISR r => .decodeISR r

end Sys2Proof
end

