-- ==== Sys2Proof/WellFormed.lean ====
section
/-! DEFINITION. Operand ranges (30_encoding.md R98): every operand but `count` and the payload admits
every value of its width, which the types say; `count` is 1 to 255 and a write's payload has exactly
`count` bytes. -/

namespace Sys2Proof

/-- `count`: "the value 0 is refused for all three transactions" (R98). -/
def countOk (count : Byte) : Bool := count != 0#8

/-- The well-formed instructions (R98): the decoder yields no other, and the engine admits no
other. -/
def Instr.wf : Instr → Bool
  | .writeReg _ count data => countOk count && data.length == count.toNat
  | .readReg _ count => countOk count
  | .readRegSel _ _ count => countOk count
  | .rdIsr | .wrIsr _ | .wrSoftr _ | .rdCr | .wrCr _ | .rdSr | .wrTxFifo _ | .rdRxFifo | .rdRxPirq
  | .wrRxPirq _ | .rdGpo | .wrGpo _ | .readStatus | .readInterruptStatus | .resetInterruptStatus
  | .enableDevice | .disableDevice | .startTransfer | .endTransfer | .enableGeneralCall
  | .disableGeneralCall | .resetTxFifo | .clearTxFifoReset | .enqueueWord _ _ _ | .dequeueWord
  | .initDevice | .getBit _ _ | .setBit _ _ _ | .decodeStatus _ | .decodeISR _ => true

end Sys2Proof
end

