-- ==== Sys2Proof/Decode.lean ====
section
/-! DEFINITION. The register map and the decoder (20_memory.md R62, 30_encoding.md R91, R96 to R100,
R103), total on everything a host can present and rejecting by name; after it the encoder, written
from the same tables. -/

namespace Sys2Proof

/-- Why a presented operation decodes to nothing (60_exceptions.md R259). -/
inductive DecodeError where
  /-- a REGOP outside the twelve of 30_encoding.md R100 -/
  | reservedAccess
  /-- a command word outside R99, a non-zero must-be-zero bit, `count = 0`, or a payload whose
  length is not `count` -/
  | badCommand
  deriving DecidableEq, Repr

/-! ### The register map (R62), one table for every user of an offset (R107) -/

/-- Offset of a readable register. -/
def RdReg.offset : RdReg → BitVec 12
  | .isr => 0x020#12
  | .cr => 0x100#12
  | .sr => 0x104#12
  | .rxFifo => 0x10C#12
  | .rxPirq => 0x120#12
  | .gpo => 0x124#12

/-- Offset of a writable register. -/
def WrReg.offset : WrReg → BitVec 12
  | .isr => 0x020#12
  | .softr => 0x040#12
  | .cr => 0x100#12
  | .txFifo => 0x108#12
  | .rxPirq => 0x120#12
  | .gpo => 0x124#12

/-! ### REGOP (R91, R100) -/

/-- The 13-bit pattern `w oooooooooooo` in two whole bytes, bits 15:13 zero. -/
def regopPattern (write : Bool) (offset : BitVec 12) : BitVec 16 :=
  (0#3 ++ (BitVec.ofBool write ++ offset) : BitVec (3 + (1 + 12)))

/-- The read a pattern stands for. -/
def rdOfPattern (pattern : BitVec 16) : Option RdReg :=
  [RdReg.isr, .cr, .sr, .rxFifo, .rxPirq, .gpo].find?
    fun r => regopPattern false r.offset == pattern

/-- The write a pattern stands for. -/
def wrOfPattern (pattern : BitVec 16) : Option WrReg :=
  [WrReg.isr, .softr, .cr, .txFifo, .rxPirq, .gpo].find?
    fun r => regopPattern true r.offset == pattern

/-- The read instruction of a register. -/
def RdReg.instr : RdReg → Instr
  | .isr => .rdIsr
  | .cr => .rdCr
  | .sr => .rdSr
  | .rxFifo => .rdRxFifo
  | .rxPirq => .rdRxPirq
  | .gpo => .rdGpo

/-- The write instruction of a register. -/
def WrReg.instr (w : Word) : WrReg → Instr
  | .isr => .wrIsr w
  | .softr => .wrSoftr w
  | .cr => .wrCr w
  | .txFifo => .wrTxFifo w
  | .rxPirq => .wrRxPirq w
  | .gpo => .wrGpo w

/-- Decodes a register-port operation; a read has no data word and ignores the one presented. -/
def decodeRegop (pattern : BitVec 16) (data : Word) : Except DecodeError Instr :=
  match rdOfPattern pattern, wrOfPattern pattern with
  | some r, _ => .ok r.instr
  | none, some r => .ok (r.instr data)
  | none, none => .error .reservedAccess

/-! ### CMD (R96, R97, R99) -/

/-- The field `op`, bits 31:24. -/
def cmdOp (word : Word) : Byte := word.extractLsb' 24 8
/-- The field `count`, bits 23:16. -/
def cmdCount (word : Word) : Byte := word.extractLsb' 16 8
/-- The field `regindex` (enqueueWord: `byte`), bits 15:8. -/
def cmdRegindex (word : Word) : Byte := word.extractLsb' 8 8
/-- The field `address`, bits 6:0. -/
def cmdAddress (word : Word) : Address := word.extractLsb' 0 7

/-- Format C0: all of bits 23:0 must be zero (mask 0xFFFFFFFF). -/
def zeroC0 (word : Word) : Bool := word.extractLsb' 0 24 == 0#24
/-- Format CE: bits 23:18 and 7:0 must be zero (mask 0xFFFC00FF). -/
def zeroCE (word : Word) : Bool := word.extractLsb' 18 6 == 0#6 && word.extractLsb' 0 8 == 0#8
/-- Format CA: bits 15:7 must be zero (mask 0xFF00FF80). -/
def zeroCA (word : Word) : Bool := word.extractLsb' 7 9 == 0#9
/-- Format CS: bit 7 must be zero (mask 0xFF000080). -/
def zeroCS (word : Word) : Bool := word.extractLsb' 7 1 == 0#1

/-- An operand-free command, by opcode (R99). -/
def c0OfOp (op : Byte) : Option Instr :=
  if op = 0x01#8 then some .readStatus
  else if op = 0x02#8 then some .readInterruptStatus
  else if op = 0x03#8 then some .resetInterruptStatus
  else if op = 0x10#8 then some .enableDevice
  else if op = 0x11#8 then some .disableDevice
  else if op = 0x12#8 then some .startTransfer
  else if op = 0x13#8 then some .endTransfer
  else if op = 0x14#8 then some .enableGeneralCall
  else if op = 0x15#8 then some .disableGeneralCall
  else if op = 0x16#8 then some .resetTxFifo
  else if op = 0x17#8 then some .clearTxFifoReset
  else if op = 0x21#8 then some .dequeueWord
  else if op = 0x30#8 then some .initDevice
  else none

/-- The instruction of a command word and payload before its operands are checked; `none` where no
row of R99 matches. -/
def cmdRow (word : Word) (payload : List Byte) : Option Instr :=
  match c0OfOp (cmdOp word) with
  | some i => if zeroC0 word then some i else none
  | none =>
    if cmdOp word = 0x20#8 then
      if zeroCE word then
        some (.enqueueWord (cmdRegindex word) (word.getLsbD 16) (word.getLsbD 17))
      else none
    else if cmdOp word = 0x31#8 then
      if zeroCA word then some (.writeReg (cmdAddress word) (cmdCount word) payload) else none
    else if cmdOp word = 0x32#8 then
      if zeroCA word then some (.readReg (cmdAddress word) (cmdCount word)) else none
    else if cmdOp word = 0x33#8 then
      if zeroCS word then
        some (.readRegSel (cmdAddress word) (cmdRegindex word) (cmdCount word))
      else none
    else none

/-- Only WRITE_REG carries a payload (30_encoding.md R104). -/
def payloadAdmitted (i : Instr) (payload : List Byte) : Bool :=
  match i with
  | .writeReg _ _ _ => true
  | _ => payload.isEmpty

/-- Decodes a command word with its payload; an instruction that is not well formed (`count = 0`, a
payload of another length) is refused (R103 (3), R178). -/
def decodeCmd (word : Word) (payload : List Byte) : Except DecodeError Instr :=
  match cmdRow word payload with
  | some i => if i.wf && payloadAdmitted i payload then .ok i else .error .badCommand
  | none => .error .badCommand

/-- The decoder: total on everything a host can present. -/
def decode : Presented → Except DecodeError Instr
  | .regop pattern data => decodeRegop pattern data
  | .cmd word payload => decodeCmd word payload

/-! ### The encoder, from the same tables -/

/-- A command word from its four fields, most significant first (R96). -/
def cmdWord (op f1 f2 f3 : Byte) : Word := (op ++ (f1 ++ (f2 ++ f3)) : BitVec (8 + (8 + (8 + 8))))

/-- An operand-free command. -/
def cmdC0 (op : Byte) : Presented := .cmd (cmdWord op 0#8 0#8 0#8) []

/-- The low byte of formats CA and CS: bit 7 zero, the address in bits 6:0. -/
def addressField (address : Address) : Byte := (0#1 ++ address : BitVec (1 + 7))

/-- The flags byte of format CE: bits 23:18 zero, `stop` in bit 17, `start` in bit 16. -/
def flagsField (isStart isStop : Bool) : Byte :=
  (0#6 ++ (BitVec.ofBool isStop ++ BitVec.ofBool isStart) : BitVec (6 + (1 + 1)))

/-- A register-port read: its pattern, no data word. -/
def regopRead (r : RdReg) : Presented := .regop (regopPattern false r.offset) 0#32

/-- A register-port write: its pattern and its data word. -/
def regopWrite (r : WrReg) (w : Word) : Presented := .regop (regopPattern true r.offset) w

/-- The words of an instruction; the pure functions have none (R99). -/
def encode : Instr → Option Presented
  | .rdIsr => some (regopRead .isr)
  | .wrIsr w => some (regopWrite .isr w)
  | .wrSoftr w => some (regopWrite .softr w)
  | .rdCr => some (regopRead .cr)
  | .wrCr w => some (regopWrite .cr w)
  | .rdSr => some (regopRead .sr)
  | .wrTxFifo w => some (regopWrite .txFifo w)
  | .rdRxFifo => some (regopRead .rxFifo)
  | .rdRxPirq => some (regopRead .rxPirq)
  | .wrRxPirq w => some (regopWrite .rxPirq w)
  | .rdGpo => some (regopRead .gpo)
  | .wrGpo w => some (regopWrite .gpo w)
  | .readStatus => some (cmdC0 0x01#8)
  | .readInterruptStatus => some (cmdC0 0x02#8)
  | .resetInterruptStatus => some (cmdC0 0x03#8)
  | .enableDevice => some (cmdC0 0x10#8)
  | .disableDevice => some (cmdC0 0x11#8)
  | .startTransfer => some (cmdC0 0x12#8)
  | .endTransfer => some (cmdC0 0x13#8)
  | .enableGeneralCall => some (cmdC0 0x14#8)
  | .disableGeneralCall => some (cmdC0 0x15#8)
  | .resetTxFifo => some (cmdC0 0x16#8)
  | .clearTxFifoReset => some (cmdC0 0x17#8)
  | .enqueueWord byte isStart isStop =>
    some (.cmd (cmdWord 0x20#8 (flagsField isStart isStop) byte 0#8) [])
  | .dequeueWord => some (cmdC0 0x21#8)
  | .initDevice => some (cmdC0 0x30#8)
  | .writeReg address count data =>
    some (.cmd (cmdWord 0x31#8 count 0#8 (addressField address)) data)
  | .readReg address count => some (.cmd (cmdWord 0x32#8 count 0#8 (addressField address)) [])
  | .readRegSel address regindex count =>
    some (.cmd (cmdWord 0x33#8 count regindex (addressField address)) [])
  | .getBit _ _ | .setBit _ _ _ | .decodeStatus _ | .decodeISR _ => none

/-! ### Words numbered as the opcode table numbers them -/

/-- What the host presents for a word of the opcode table with every operand bit above `nbits`
zero: a REGOP pattern (up to two bytes) with data word 0, or a command word (up to four bytes) with
a payload of `count` zero bytes where WRITE_REG has one. -/
def presentedOfWord (nbits w : Nat) : Presented :=
  if nbits ≤ 16 then .regop (BitVec.ofNat 16 w) 0#32
  else
    let word := BitVec.ofNat 32 w
    .cmd word (if cmdOp word = 0x31#8 then List.replicate (cmdCount word).toNat 0#8 else [])

/-- Whether a table word has the size of one of the two formats. -/
def tableWordFits (nbits w : Nat) : Bool :=
  (nbits ≤ 16 && decide (w < 2 ^ 16)) || (nbits ≤ 32 && 16 < nbits && decide (w < 2 ^ 32))

/-- The instruction the decoder reads from a table word (host interface). -/
def decodeTableWord (nbits w : Nat) : Option Instr :=
  if tableWordFits nbits w then
    match decode (presentedOfWord nbits w) with
    | .ok i => some i
    | .error _ => none
  else none

end Sys2Proof
end

