-- ==== Sys2Proof/Machine/State.lean ====
section
/-! DEFINITION. The state of the machine (10_state.md R20 to R44) as plain data: the controller's
registers and FIFOs, the bus side, the environment, the engine, the marks; and, as the model's own
fields, what one deterministic step needs to know: who moves next, what the host presents next,
what the environment answers next, and the counter of drawn free values. -/

namespace Sys2Proof.Machine

/-! ### Decoded flag words -/

/-- StatusWord: the eight flags of SR, bit 7 down to bit 0 (10_state.md R24). -/
structure StatusWord where
  txEmpty : Bool
  rxEmpty : Bool
  txFull : Bool
  rxFull : Bool
  slaveRw : Bool
  busBusy : Bool
  addressedAsSlave : Bool
  addressedByGeneralCall : Bool
  deriving DecidableEq, Repr

/-- InterruptStatusWord: the eight flags of ISR, bit 7 down to bit 0 (10_state.md R26). -/
structure InterruptStatusWord where
  txHalf : Bool
  notAddressed : Bool
  addressed : Bool
  notBusy : Bool
  rxFull : Bool
  txEmpty : Bool
  errorOrComplete : Bool
  arbitrationLost : Bool
  deriving DecidableEq, Repr

/-! ### The bus side and the environment -/

/-- The line state `ls`, hidden state of the bus side (10_state.md R33). -/
inductive LineState where
  /-- no transfer open -/
  | idle
  /-- a (repeated) start has been issued and address byte `b` is being sent -/
  | sendAddr (b : Byte) (stop : Bool)
  /-- a write-direction transfer waits for the next transmit entry -/
  | txWait
  /-- data byte `b` is being sent -/
  | sendData (b : Byte) (stop : Bool)
  /-- a read-direction address was acknowledged; waits for the count entry -/
  | rxCountWait
  /-- `n` bytes remain to be received, 1 to 255 -/
  | rx (n : Nat)
  /-- a stop condition is about to be issued; `halt` says whether Halted follows -/
  | stopping (halt : Bool)
  /-- a byte was not acknowledged or arbitration was lost; nothing until disable or reset -/
  | halted
  deriving DecidableEq, Repr

/-- One event of the bus trace (45_bus_side.md R210); an answer is `true` for ACK. -/
inductive BusEvent where
  | start
  | rstart
  | addr (b : Byte) (ack : Bool)
  | txb (b : Byte) (ack : Bool)
  | rxb (b : Byte) (ack : Bool)
  | stop
  | abort
  | lost
  deriving DecidableEq, Repr

/-- A byte-addressed memory: address and byte, addresses strictly rising, no entry equal to what an
unlisted address reads as. The block has no memory of its own (20_memory.md, opening); this holds
the register file of a reference slave and the array of result bytes. -/
abbrev Memory := List Host.Cell

/-- What an unlisted address reads as (log entries 6 and 19). -/
def Memory.unlisted : Byte := 0x00#8

/-- The canonical form. -/
abbrev Memory.wf (m : Memory) : Prop :=
  m.Pairwise (fun a b => a.1 < b.1) ∧ ∀ c ∈ m, c.2 ≠ Memory.unlisted

/-- The kinds of reference slave (45_bus_side.md R230). -/
inductive SimKind where
  | pointer
  | single
  deriving DecidableEq, Repr

/-- SimDev, the reference slave (45_bus_side.md R230). -/
structure SimDev where
  /-- its 7-bit address -/
  address : Address
  kind : SimKind
  /-- `regs[0..255]` -/
  regs : Memory
  /-- a `volatile` register: index and successive read values -/
  volatile : List (Nat × List Byte)
  /-- the auto-incrementing pointer -/
  ptr : Byte
  /-- selected, and with which direction bit (`true` = read) -/
  selected : Option Bool
  /-- the next received byte is the pointer byte -/
  wantPtr : Bool
  deriving DecidableEq, Repr

/-- What answers `Env.ack` and `Env.rdata` when no scripted answer is left (R228; log entry 4). -/
inductive Oracle where
  /-- any environment: free values -/
  | free
  /-- a bus of reference slaves with distinct addresses -/
  | sim (devs : List SimDev)
  deriving DecidableEq, Repr

/-- The environment (10_state.md R34, R44): `ext_busy`, the slaves' state, and scripted answers,
each list consumed from its head before the oracle is asked. -/
structure Environment where
  extBusy : Bool
  oracle : Oracle
  /-- next answers of `Env.ack` (`true` = ACK) -/
  acks : List Bool
  /-- next bytes of `Env.rdata` -/
  rbytes : List Byte
  /-- next choices of `Lost`, consulted only under MULTI_MASTER -/
  losts : List Bool
  /-- next outcomes of a register access (`true` = fails), only under ACCESS_CAN_FAIL -/
  fails : List Bool
  deriving DecidableEq, Repr

/-! ### The engine -/

/-- `eng.mode` (10_state.md R36). -/
inductive EngMode where
  | idle
  | run
  | faulted
  deriving DecidableEq, Repr

/-- `eng.upc`: the labels of the step tables (10_state.md R36; files 41 to 44). -/
inductive Label where
  | rs0 | ri0 | ci0 | ci1 | t0 | t1 | eq0 | dq0
  | p0 | p1 | p2 | p3 | p4 | p5 | p6 | p7 | p8 | p9 | p10 | p11 | p12 | p13 | p14
  | w0 | w1 | w2 | w3 | w4 | w5
  | g0 | g1 | g2 | g3 | g4 | g5 | g6
  | s0 | s1 | s2 | s3 | s4 | s5 | s6 | s7 | s8
  deriving DecidableEq, Repr

/-- The engine's working registers (10_state.md R35, R36). -/
structure Engine where
  mode : EngMode
  upc : Label
  /-- the latched command with its operands and payload -/
  cmd : Instr
  tmp : Word
  /-- the last decoded StatusWord, as the 8-bit value `r[7:0]` (41_bit_codec_decoders.md R152) -/
  st : Byte
  /-- the last decoded InterruptStatusWord, as the 8-bit value `r[7:0]` -/
  isr : Byte
  /-- the loop index -/
  i : Byte
  deriving DecidableEq, Repr

/-- Direction of a register access. -/
inductive Dir where
  | read
  | write
  deriving DecidableEq, Repr

/-- The model-level faults (60_exceptions.md R258). Each is a MARK on the run, recorded in
`State.faults` and never cleared; no step of this machine stops with one (R258: "the fault is a mark
on the run, not a stop"). -/
inductive Fault where
  /-- 0x01: recorded by any engine step whose access the primitive fails (R257); the engine is then
  Faulted. Safe: a faulted state is never a good final state. -/
  | accessFault (label : Label) (offset : BitVec 12) (dir : Dir)
  /-- 0x02: recorded by WR.TX_FIFO on a full transmit FIFO (R126). Safe. -/
  | txOverflow (entry : Entry)
  /-- 0x03: recorded by RD.RX_FIFO on an empty receive FIFO (R127). Safe. -/
  | rxUnderflow
  /-- 0x04: recorded by the bus side on an entry sequence outside the grammar (R216, R217). Safe. -/
  | framingFault (entry : Entry)
  deriving DecidableEq, Repr

/-- The refusal reasons (60_exceptions.md R259) and two of the model's own. A refused request sets
the mark `State.refused` and changes nothing else; the step after it stops with the reason, for the
spec "says nothing more about the run". All are safe: nothing can be proved of a refused run. -/
inductive Refusal where
  /-- raised by a register access outside R100, or of the wrong width or alignment (R65, R68) -/
  | reservedAccess
  /-- raised by WR.SOFTR with a word other than 0x0000000A (R129) -/
  | badResetKey
  /-- raised by a command word outside R99, non-zero must-be-zero bits, `count = 0` (R178) -/
  | badCommand
  /-- raised by a host command or raw access while the engine is not Idle (R195) -/
  | concurrent
  /-- raised by a bus-side step asked for with EN = 1 and MSMS = 1 (45_bus_side.md R232) -/
  | staticModeNotSpecified
  /-- the model's own: an engine step at a label that is not one of the operation's step table; no
  run reaches it (log entry 25). Safe. -/
  | labelNotOfOperation
  /-- the model's own: an instruction without a meaning, rejected by name in exec's arm. Safe. -/
  | notModelled (mnemonic : String)
  deriving DecidableEq, Repr

/-- The result registers (10_state.md R37). -/
structure Results where
  fail : Bool
  /-- `res.data[0..254]` -/
  data : Memory
  isr : Byte
  status : Byte
  /-- fault reason or none -/
  err : Option Fault
  deriving DecidableEq, Repr

/-! ### The host and the schedule -/

/-- What the last host action gave back to the host: the word a read yields, the value a pure function
returns, or the primitive's failure (model's own field, log entry 13). -/
inductive HostReturn where
  | nothing
  | done
  | word (w : Word)
  | flag (b : Bool)
  | status (st : StatusWord)
  | isrFlags (isr : InterruptStatusWord)
  | accessFailed
  deriving DecidableEq, Repr

/-- The host's actions (60_exceptions.md R275). -/
inductive HostAction where
  /-- a command, or a raw register access in REGOP form -/
  | present (p : Presented)
  /-- a raw access at the register access primitive: direction, absolute control-space address,
  width in bytes, data word (20_memory.md R61, R65) -/
  | access (write : Bool) (address bytes : Nat) (data : Word)
  /-- a call of a pure function -/
  | call (f : FnCall)
  /-- acknowledge a Faulted engine -/
  | ackFault
  /-- assert the power-on reset input `rst` (70_reset_and_hazards.md R285) -/
  | rst
  deriving DecidableEq, Repr

/-- Who moves when no turn is queued (45_bus_side.md R231; log entry 2). -/
inductive Policy where
  /-- the eager-bus schedule -/
  | eager
  /-- the lazy-bus schedule -/
  | lazy
  /-- any schedule: a free value decides each turn -/
  | free
  deriving DecidableEq, Repr

/-- The whole state (10_state.md R20). -/
structure State where
  /-- the parameters (R44); no step changes them -/
  params : Params
  /-- `CR`, ControlWord (R21) -/
  cr : Word
  /-- `ISR[7:0]` (R25) -/
  isr : Byte
  /-- `RX_PIRQ`: only its low RX_PIRQ_BITS bits can be 1 (R27) -/
  rxPirq : Word
  /-- `GPO` (R31) -/
  gpo : Word
  /-- `TXF`, oldest entry first (R28) -/
  txf : List Entry
  /-- `RXF`, oldest byte first (R30) -/
  rxf : List Byte
  /-- `ls` (R33) -/
  ls : LineState
  /-- a `FramingFault` has been recorded since the last reset or disable (45_bus_side.md R211) -/
  framingBlocked : Bool
  /-- environment state (R34) -/
  env : Environment
  /-- the bus trace, oldest event first (R34, R210) -/
  trace : List BusEvent
  /-- the engine (R35, R36) -/
  eng : Engine
  /-- the result registers (R37) -/
  res : Results
  /-- the fault set (R42), in the order of first occurrence, no repeats -/
  faults : List Fault
  /-- the refusal mark (R42), with the reasons in the order they were met -/
  refused : List Refusal
  /-- model's own: what the last host action gave back -/
  ret : HostReturn
  /-- model's own: what the host will do at its next turns -/
  inputs : List HostAction
  /-- model's own: whose turns come next -/
  turns : List Agent
  /-- model's own: who moves when `turns` is empty -/
  policy : Policy
  /-- model's own: how many free values have been drawn -/
  draws : Nat
  deriving DecidableEq, Repr

/-! ### Reset -/

/-- The engine after power-on reset: Idle (R41); the working registers hold the values log entry 5
names (the spec: "no value"). -/
def Engine.reset : Engine where
  mode := .idle
  upc := .rs0
  cmd := .readStatus
  tmp := 0#32
  st := 0#8
  isr := 0#8
  i := 0#8

/-- The result registers after power-on reset, values named by log entry 6 (the spec: "no value"). -/
def Results.reset : Results where
  fail := false
  data := []
  isr := 0#8
  status := 0#8
  err := none

/-- The environment at launch: the bus free of others (log entry 7), any slaves. -/
def Environment.reset : Environment where
  extBusy := false
  oracle := .free
  acks := []
  rbytes := []
  losts := []
  fails := []

/-- The machine right after power-on reset with the default parameters (10_state.md R41). -/
def State.reset : State where
  params := {}
  cr := 0x00000000#32
  isr := ({} : Params).isrReset
  rxPirq := 0#32
  gpo := ({} : Params).gpoResetValue
  txf := []
  rxf := []
  ls := .idle
  framingBlocked := false
  env := Environment.reset
  trace := []
  eng := Engine.reset
  res := Results.reset
  faults := []
  refused := []
  ret := .nothing
  inputs := []
  turns := []
  policy := .eager
  draws := 0

end Sys2Proof.Machine
end

