-- ==== Sys2Proof/Machine/Operands.lean ====
section
/-! DEFINITION. The bit codec and every operand form (41_bit_codec_decoders.md R150, R151;
30_encoding.md R93 to R95, R101, R102): how a word is taken apart and how each word the engine writes
is assembled; and the fields of the control register. -/

namespace Sys2Proof.Machine

/-! ### The bit codec -/

/-- `getBit(word, offset)` (R150): "returns bit at `offset`". -/
def getBit (word : Word) (offset : BitVec 5) : Bool :=
  (word >>> offset.toNat) &&& 1#32 == 1#32

/-- `setBit(word, offset, value)` (R151): "sets/clears bit `offset` in place, leaving all other bits
untouched", in function form. -/
def setBit (word : Word) (offset : BitVec 5) (value : Bool) : Word :=
  (word &&& ~~~(1#32 <<< offset.toNat)) ||| ((BitVec.ofBool value).setWidth 32 <<< offset.toNat)

/-! ### Control-register bits (10_state.md R22) -/

/-- EN, bit 0. -/
def crEnBit : BitVec 5 := 0#5
/-- TXRST, bit 1. -/
def crTxrstBit : BitVec 5 := 1#5
/-- MSMS (start-transfer), bit 2. -/
def crMsmsBit : BitVec 5 := 2#5
/-- GCEN (general-call), bit 6. -/
def crGcenBit : BitVec 5 := 6#5

/-- EN of a control word. -/
def crEn (w : Word) : Bool := w.getLsbD 0
/-- TXRST of a control word. -/
def crTxrst (w : Word) : Bool := w.getLsbD 1
/-- MSMS of a control word. -/
def crMsms (w : Word) : Bool := w.getLsbD 2
/-- GCEN of a control word: a storage bit, no function on the master side (R165). -/
def crGcen (w : Word) : Bool := w.getLsbD 6

/-! ### Transmit-FIFO entries (30_encoding.md R93, R94, R101) -/

/-- `e.data = e[7:0]`. -/
def entryData (e : Entry) : Byte := e.extractLsb' 0 8
/-- `e.start = e[8]`. -/
def entryStart (e : Entry) : Bool := e.getLsbD 8
/-- `e.stop = e[9]`. -/
def entryStop (e : Entry) : Bool := e.getLsbD 9

/-- The entry a written word holds: bits 9:0, bits 31:10 ignored (R93). -/
def entryOfWord (w : Word) : Entry := w.extractLsb' 0 10

/-- enqueueWord's general form: `zext_32(byte | start << 8 | stop << 9)` (R101, R170). -/
def entryWord (byte : Byte) (isStart isStop : Bool) : Word :=
  byte.setWidth 32 ||| ((BitVec.ofBool isStart).setWidth 32 <<< 8)
    ||| ((BitVec.ofBool isStop).setWidth 32 <<< 9)

/-- ADDRBYTE: `(address << 1) | direction`, 0 = write, 1 = read (R94). -/
def addrByte (address : Address) (read : Bool) : Byte :=
  (address.setWidth 8 <<< 1) ||| (BitVec.ofBool read).setWidth 8

/-- Address entry: start = 1, stop = 0 (R101). -/
def addrWord (address : Address) (read : Bool) : Word :=
  0x100#32 ||| (addrByte address read).setWidth 32

/-- Data entry: stop on the last byte only (R101). -/
def dataWord (byte : Byte) (last : Bool) : Word :=
  byte.setWidth 32 ||| (if last then 0x200#32 else 0#32)

/-- Register-index entry: `zext_32(regindex)` (R101). -/
def indexWord (regindex : Byte) : Word := regindex.setWidth 32

/-- Count entry: `zext_32(0x200 | count)` (R101). -/
def countWord (count : Byte) : Word := 0x200#32 ||| count.setWidth 32

/-- The low byte of a word: the byte of a receive-FIFO read, the eight flags of a decoded word
(30_encoding.md R95, 20_memory.md R67). -/
def lowByte (w : Word) : Byte := w.extractLsb' 0 8

/-- The entry that opened a transfer, from the address byte being sent and its stop flag: what a
FramingFault raised when the address is acknowledged records (45_bus_side.md R217, log entry 20). -/
def entryOfAddr (b : Byte) (stop : Bool) : Entry :=
  (BitVec.ofBool stop ++ (1#1 ++ b) : BitVec (1 + (1 + 8)))

/-! ### Other literals and parameters -/

/-- `SOFTR_KEY`: the "fixed magic key 0xA" (00_scope.md R6, R129). -/
def softrKey : Word := 0x0000000A#32

/-- `RX_PIRQ_BITS` = ceil(log2(RX_DEPTH)) (00_scope.md R6). -/
def rxPirqBits (p : Params) : Nat :=
  if p.rxDepth ≤ 1 then 0 else Nat.log2 (p.rxDepth - 1) + 1

/-- `w[RX_PIRQ_BITS-1 : 0]`, zero-extended (R128). -/
def rxPirqField (p : Params) (w : Word) : Word := BitVec.ofNat 32 (w.toNat % 2 ^ rxPirqBits p)

/-- Byte lane `k` of a register word: bits `8k+7 : 8k` at byte address `off + k` (20_memory.md R64). -/
def byteLane (w : Word) (k : Fin 4) : Byte := w.extractLsb' (8 * k.val) 8

/-- A byte as it goes over the wires, most significant bit first (20_memory.md R64, general
knowledge G7). -/
def wireBits (b : Byte) : List Bool := [7, 6, 5, 4, 3, 2, 1, 0].map b.getLsbD

/-- The output pins: `gpo_pin[i] = GPO[i]` (10_state.md R31). -/
def State.gpoPin (s : State) (i : Nat) : Bool := s.gpo.getLsbD i

end Sys2Proof.Machine
end

