-- ==== Sys2Proof/Machine/Flags.lean ====
section
/-! DEFINITION. Every flag computation: the status word as read (10_state.md R23, R24,
40_register_access.md R123), the two decoders and their inverses (41_bit_codec_decoders.md R152, R153),
the interrupt-status events (45_bus_side.md R227), and the exit conditions of the poll loops
(44_transaction_engine.md R181, R184, R188). -/

namespace Sys2Proof.Machine

/-! ### Decoders and their inverses -/

/-- `decodeStatus(r)` (R152): eight fixed bit positions, bits 31:8 not looked at. -/
def decodeStatus (r : Word) : StatusWord where
  txEmpty := getBit r 7#5
  rxEmpty := getBit r 6#5
  txFull := getBit r 5#5
  rxFull := getBit r 4#5
  slaveRw := getBit r 3#5
  busBusy := getBit r 2#5
  addressedAsSlave := getBit r 1#5
  addressedByGeneralCall := getBit r 0#5

/-- `decodeISR(r)` (R153). -/
def decodeISR (r : Word) : InterruptStatusWord where
  txHalf := getBit r 7#5
  notAddressed := getBit r 6#5
  addressed := getBit r 5#5
  notBusy := getBit r 4#5
  rxFull := getBit r 3#5
  txEmpty := getBit r 2#5
  errorOrComplete := getBit r 1#5
  arbitrationLost := getBit r 0#5

/-- Eight flags as a word, the first in bit 7, bits 31:8 zero. -/
def flagsWord (b7 b6 b5 b4 b3 b2 b1 b0 : Bool) : Word :=
  (BitVec.ofBool b7 ++ (BitVec.ofBool b6 ++ (BitVec.ofBool b5 ++ (BitVec.ofBool b4
    ++ (BitVec.ofBool b3 ++ (BitVec.ofBool b2 ++ (BitVec.ofBool b1 ++ BitVec.ofBool b0))))))
    : BitVec (1 + (1 + (1 + (1 + (1 + (1 + (1 + 1)))))))).setWidth 32

/-- `encodeStatus(st)`: "places each flag at its bit and zero elsewhere" (R152). -/
def encodeStatus (st : StatusWord) : Word :=
  flagsWord st.txEmpty st.rxEmpty st.txFull st.rxFull st.slaveRw st.busBusy st.addressedAsSlave
    st.addressedByGeneralCall

/-- `encodeISR(isr)` (R153). -/
def encodeISR (isr : InterruptStatusWord) : Word :=
  flagsWord isr.txHalf isr.notAddressed isr.addressed isr.notBusy isr.rxFull isr.txEmpty
    isr.errorOrComplete isr.arbitrationLost

/-! ### SR as read -/

/-- `own_busy = (ls ∉ {Idle, Halted})` (10_state.md R33). -/
def ownBusy : LineState → Bool
  | .idle | .halted => false
  | .sendAddr _ _ | .txWait | .sendData _ _ | .rxCountWait | .rx _ | .stopping _ => true

/-- The flags of SR at this instant (10_state.md R24): the slave-side three read 0 always. -/
def statusNow (s : State) : StatusWord where
  txEmpty := s.txf.length == 0
  rxEmpty := s.rxf.length == 0
  txFull := s.txf.length == s.params.txDepth
  rxFull := s.rxf.length == s.params.rxDepth
  slaveRw := false
  busBusy := ownBusy s.ls || s.env.extBusy
  addressedAsSlave := false
  addressedByGeneralCall := false

/-- The word `RD.SR` yields (40_register_access.md R123). -/
def srWord (s : State) : Word := encodeStatus (statusNow s)

/-! ### Interrupt-status flags (10_state.md R26, 45_bus_side.md R227) -/

/-- ISR bit 7, `tx_half`. -/
def flagTxHalf : Byte := 0x80#8
/-- ISR bit 4, `not_busy`. -/
def flagNotBusy : Byte := 0x10#8
/-- ISR bit 3, `rx_full`. -/
def flagRxFull : Byte := 0x08#8
/-- ISR bit 2, `tx_empty`. -/
def flagTxEmpty : Byte := 0x04#8
/-- ISR bit 1, `error_or_complete`. -/
def flagError : Byte := 0x02#8
/-- ISR bit 0, `arbitration_lost`. -/
def flagArbLost : Byte := 0x01#8

/-- Sets the flags of `mask` when `cond` holds; a flag once set stays set (R227). -/
def raiseFlag (cond : Bool) (mask : Byte) (s : State) : State :=
  { s with isr := if cond then s.isr ||| mask else s.isr }

/-! ### Poll exits -/

/-- P14: `tx_empty ∧ rx_empty ∧ ¬bus_busy` (R181). -/
def prologueExit (st : StatusWord) : Bool := st.txEmpty && st.rxEmpty && !st.busBusy

/-- W2 re-polls only while `¬tx_empty ∧ bus_busy`: the lenient exit, preserved exactly (R184). -/
def writeExit (st : StatusWord) : Bool := !(!st.txEmpty && st.busBusy)

/-- G2 and S4: `¬rx_empty` (R188). -/
def receiveExit (st : StatusWord) : Bool := !st.rxEmpty

/-- The exit condition of a poll label; `none` for every other label (45_bus_side.md R231). -/
def pollExit (label : Label) (st : StatusWord) : Option Bool :=
  if label = .p14 then some (prologueExit st)
  else if label = .w2 then some (writeExit st)
  else if label = .g2 ∨ label = .s4 then some (receiveExit st)
  else none

end Sys2Proof.Machine
end

