-- ==== Sys2Proof/Machine/Environment.lean ====
section
/-! DEFINITION. The environment (45_bus_side.md R228 to R230): the memory of a reference slave, the
reference slave SimDev, the questions the bus side and the register access primitive ask, and the
environment's own step EnvBusy. -/

namespace Sys2Proof.Machine

/-! ### Memory in canonical form -/

/-- The byte at an address. -/
def memRead : Memory → Nat → Byte
  | [], _ => Memory.unlisted
  | (a, b) :: rest, k => if a = k then b else memRead rest k

/-- Puts a byte at the front unless it is what an unlisted address reads as. -/
def memCons (k : Nat) (v : Byte) (m : Memory) : Memory :=
  if v = Memory.unlisted then m else (k, v) :: m

/-- Writes a byte, keeping the canonical form. -/
def memWrite : Memory → Nat → Byte → Memory
  | [], k, v => memCons k v []
  | (a, b) :: rest, k, v =>
    if k < a then memCons k v ((a, b) :: rest)
    else if k = a then memCons k v rest
    else (a, b) :: memWrite rest k v

/-! ### SimDev (R230) -/

/-- The successive read values left of a volatile register. -/
def volatileValues (d : SimDev) (k : Nat) : List Byte :=
  ((d.volatile.find? fun v => v.1 == k).map (·.2)).getD []

/-- The index the next received or sent data byte concerns. -/
def simIndex (d : SimDev) : Nat :=
  match d.kind with
  | .pointer => d.ptr.toNat
  | .single => 0

/-- What a selected device sends: a volatile register's next value, else the register. -/
def simRead (d : SimDev) : Byte :=
  match volatileValues d (simIndex d) with
  | v :: _ => v
  | [] => memRead d.regs (simIndex d)

/-- A read uses up one value of a volatile register; the last value stays (log entry 19). -/
def simUseVolatile (d : SimDev) : SimDev :=
  { d with volatile := d.volatile.map fun v =>
      if v.1 == simIndex d ∧ 1 < v.2.length then (v.1, v.2.tail) else v }

/-- `ptr <- (ptr + 1) mod 256`, kind `pointer` only. -/
def simAdvance (d : SimDev) : SimDev :=
  match d.kind with
  | .pointer => { d with ptr := d.ptr + 1#8 }
  | .single => d

/-- `ADDR(b, _)`: selects the device with address `b[7:1]` and direction `b[0]`, deselects others. -/
def simOnAddr (b : Byte) (d : SimDev) : SimDev :=
  if d.address = b.extractLsb' 1 7 then
    { d with selected := some (b.getLsbD 0), wantPtr := !b.getLsbD 0 }
  else { d with selected := none, wantPtr := false }

/-- `TXB(b, _)` to the selected device. -/
def simOnTxb (b : Byte) (d : SimDev) : SimDev :=
  if d.selected = some false then
    match d.kind with
    | .pointer =>
      if d.wantPtr then { d with ptr := b, wantPtr := false }
      else simAdvance { d with regs := memWrite d.regs d.ptr.toNat b }
    | .single => { d with regs := memWrite d.regs 0 b }
  else d

/-- After the selected device has sent a byte. -/
def simOnRxb (d : SimDev) : SimDev :=
  if d.selected = some true then simAdvance (simUseVolatile d) else d

/-- How one device sees one bus event. -/
def simObserve (ev : BusEvent) (d : SimDev) : SimDev :=
  match ev with
  | .addr b _ => simOnAddr b d
  | .txb b _ => simOnTxb b d
  | .rxb _ _ => simOnRxb d
  | .stop | .abort => { d with selected := none, wantPtr := false }
  | .start | .rstart | .lost => d

/-- How the slaves see one bus event. -/
def observe (ev : BusEvent) (env : Environment) : Environment :=
  match env.oracle with
  | .free => env
  | .sim devs => { env with oracle := .sim (devs.map (simObserve ev)) }

/-- `trace += ev`: the trace is only ever appended to, and the slaves see the event (R210). -/
def emit (ev : BusEvent) (s : State) : State :=
  { s with trace := s.trace ++ [ev], env := observe ev s.env }

/-! ### The questions (R228) -/

/-- What the bus side asks `Env.ack` about. -/
inductive AckQuestion where
  | addr (b : Byte)
  | txb (b : Byte)
  deriving DecidableEq, Repr

/-- The reference bus's answer: an address is acknowledged iff a device has it; a data byte always,
where a device is selected for writing (R230). -/
def simAck (q : AckQuestion) (devs : List SimDev) : Bool :=
  match q with
  | .addr b => devs.any fun d => d.address == b.extractLsb' 1 7
  | .txb _ => devs.any fun d => d.selected == some false

/-- `Env.ack(trace, ·)`: the next scripted answer, else the reference bus's, else a free value. -/
def askAck (q : AckQuestion) (s : State) : Bool × State :=
  match s.env.acks with
  | a :: rest => (a, { s with env := { s.env with acks := rest } })
  | [] =>
    match s.env.oracle with
    | .sim devs => (simAck q devs, s)
    | .free => (Config.freeAck s.draws, { s with draws := s.draws + 1 })

/-- `Env.rdata(trace)`: the byte the addressed slave sends next; a free value where no reference
slave is selected for reading (log entry 19). -/
def askByte (s : State) : Byte × State :=
  match s.env.rbytes with
  | b :: rest => (b, { s with env := { s.env with rbytes := rest } })
  | [] =>
    match s.env.oracle with
    | .sim devs =>
      match devs.find? fun d => d.selected == some true with
      | some d => (simRead d, s)
      | none => (Config.freeByte s.draws, { s with draws := s.draws + 1 })
    | .free => (Config.freeByte s.draws, { s with draws := s.draws + 1 })

/-- Whether the `Lost` step happens instead of an answer: never unless MULTI_MASTER (R219). -/
def askLost (s : State) : Bool × State :=
  if s.params.multiMaster then
    match s.env.losts with
    | l :: rest => (l, { s with env := { s.env with losts := rest } })
    | [] => (Config.freeLost s.draws, { s with draws := s.draws + 1 })
  else (false, s)

/-- Whether this register access fails: never unless ACCESS_CAN_FAIL (60_exceptions.md R257). -/
def askFail (s : State) : Bool × State :=
  if s.params.accessCanFail then
    match s.env.fails with
    | f :: rest => (f, { s with env := { s.env with fails := rest } })
    | [] => (Config.freeFail s.draws, { s with draws := s.draws + 1 })
  else (false, s)

/-! ### The environment's step -/

/-- Whether `EnvBusy` is enabled (R229). -/
def envEnabled (s : State) : Bool := s.params.extBusyAllowed && !ownBusy s.ls

/-- `EnvBusy`: `ext_busy <- ¬ext_busy` where enabled; otherwise the turn passes (log entry 23). -/
def envStep (s : State) : State :=
  if envEnabled s then { s with env := { s.env with extBusy := !s.env.extBusy } } else s

end Sys2Proof.Machine
end

