-- ==== Sys2Proof/Machine/Ops.lean ====
section
/-! DEFINITION. The shared operations: marks (10_state.md R42), BusAbandon and the two resets
(45_bus_side.md R223, 40_register_access.md R129, 70_reset_and_hazards.md R285), the register port
(R121 to R132), an engine access with its failure (60_exceptions.md R257), the control transfers of
the micro-PC, and the admission of a command (44_transaction_engine.md R176, R178). The block takes no
trap (R255, R266): its one exceptional transfer is `accessFault`, left by `acknowledge`. -/

namespace Sys2Proof.Machine

/-! ### Marks -/

/-- Adds a fault to the set `faults`; never cleared (R42, R258). -/
def recordFault (f : Fault) (s : State) : State :=
  if f ∈ s.faults then s else { s with faults := s.faults ++ [f] }

/-- Sets the refusal mark with a reason; changes nothing else (R133, R259). -/
def markRefused (r : Refusal) (s : State) : State :=
  if r ∈ s.refused then s else { s with refused := s.refused ++ [r] }

/-! ### BusAbandon and the resets -/

/-- `BusAbandon()` (R223): ABORT in the trace if a transfer was open, `ls <- Idle`, and a recorded
FramingFault no longer disables the bus side. -/
def busAbandon (s : State) : State :=
  let s := if ownBusy s.ls then emit .abort s else s
  { s with ls := .idle, framingBlocked := false }

/-- What both resets give the controller's registers and FIFOs (10_state.md R41). -/
def resetController (s : State) : State :=
  { s with cr := 0x00000000#32, isr := s.params.isrReset, rxPirq := 0#32, txf := [], rxf := [] }

/-- `SoftReset()` (R129): GPO keeps its value unless SOFTR_CLEARS_GPO. -/
def softReset (s : State) : State :=
  let s := resetController s
  busAbandon { s with gpo := if s.params.softrClearsGpo then s.params.gpoResetValue else s.gpo }

/-- Power-on reset, the input `rst` (R285): the controller as R41's power-on column, the engine Idle
with the register values of log entries 5 and 6; marks, trace and environment keep their values. -/
def powerOnReset (s : State) : State :=
  let s := resetController s
  busAbandon { s with
    gpo := s.params.gpoResetValue, eng := Engine.reset, res := Results.reset, ret := .done }

/-! ### The register port: what each access does to the controller -/

/-- `RD.RX_FIFO` (R127): pops one byte into bits 7:0, bits 31:8 drawn; on an empty FIFO the fault
RxUnderflow and a drawn word. -/
def readRxFifo (s : State) : Word × State :=
  let drawn := Config.freeWord s.draws
  let s := { s with draws := s.draws + 1 }
  match s.rxf with
  | [] => (drawn, recordFault .rxUnderflow s)
  | b :: rest => ((drawn.extractLsb' 8 24 ++ b : BitVec (24 + 8)), { s with rxf := rest })

/-- `WR.TX_FIFO` (R126): discarded while TXRST, the fault TxOverflow on a full FIFO, else pushed. -/
def writeTxFifo (w : Word) (s : State) : State :=
  if crTxrst s.cr then s
  else if s.txf.length = s.params.txDepth then recordFault (.txOverflow (entryOfWord w)) s
  else { s with txf := s.txf ++ [entryOfWord w] }

/-- `WR.CR` (R122): store, flush the transmit FIFO if TXRST, abandon if EN goes 1 to 0, in this
order within one step (R134). -/
def writeCr (w : Word) (s : State) : State :=
  let old := s.cr
  let s := { s with cr := w, txf := if crTxrst w then [] else s.txf }
  if crEn old && !crEn w then busAbandon s else s

/-- `WR.SOFTR` (R129): the whole word is compared with the key; any other word is refused. -/
def writeSoftr (w : Word) (s : State) : State :=
  if w = softrKey then softReset s else markRefused .badResetKey s

/-- A read of a register: the word it yields and its side effect (R121, R123, R124, R127, R130,
R132). -/
def portRead (r : RdReg) (s : State) : Word × State :=
  match r with
  | .cr => (s.cr, s)
  | .sr => (srWord s, s)
  | .isr => (s.isr.setWidth 32, s)
  | .rxFifo => readRxFifo s
  | .rxPirq => (s.rxPirq, s)
  | .gpo => (s.gpo, s)

/-- A write of a register (R122, R125, R126, R128, R129, R131). -/
def portWrite (r : WrReg) (w : Word) (s : State) : State :=
  match r with
  | .cr => writeCr w s
  | .isr => { s with isr := lowByte w }
  | .txFifo => writeTxFifo w s
  | .rxPirq => { s with rxPirq := rxPirqField s.params w }
  | .softr => writeSoftr w s
  | .gpo => { s with gpo := w }

/-! ### Micro-PC and engine registers -/

/-- `eng.upc <- label`. -/
def goto (label : Label) (s : State) : State := { s with eng := { s.eng with upc := label } }
/-- done: `eng.mode <- Idle`. -/
def finish (s : State) : State := { s with eng := { s.eng with mode := .idle } }
/-- `eng.tmp <- w`. -/
def setTmp (w : Word) (s : State) : State := { s with eng := { s.eng with tmp := w } }
/-- `eng.st <- decodeStatus(w)`, stored as `w[7:0]`. -/
def setSt (w : Word) (s : State) : State := { s with eng := { s.eng with st := lowByte w } }
/-- `eng.isr <- decodeISR(w)`, stored as `w[7:0]`. -/
def setEngIsr (w : Word) (s : State) : State := { s with eng := { s.eng with isr := lowByte w } }
/-- `eng.i <- v`. -/
def setI (v : Byte) (s : State) : State := { s with eng := { s.eng with i := v } }

/-! ### An engine step's one access -/

/-- A failed access (R257): no effect on the controller, none of the step's register updates;
`res.err` and the fault set record it, the engine is Faulted, the rest of the operation is not
executed. -/
def accessFault (offset : BitVec 12) (dir : Dir) (s : State) : State :=
  let f := Fault.accessFault s.eng.upc offset dir
  let s := recordFault f s
  { s with res := { s.res with err := some f }, eng := { s.eng with mode := .faulted } }

/-- The host acknowledges the error: `Faulted` is left to Idle (R257, R275). -/
def acknowledge (s : State) : State := { s with eng := { s.eng with mode := .idle } }

/-- An engine step that reads a register: `k` is what the step does with the word read. -/
def engRead (r : RdReg) (k : Word → State → State) (s : State) : State :=
  let (fails, s) := askFail s
  if fails then accessFault r.offset .read s
  else
    let (w, s) := portRead r s
    k w s

/-- An engine step that writes a register: `k` is what the step does after the write. -/
def engWrite (r : WrReg) (w : Word) (k : State → State) (s : State) : State :=
  let (fails, s) := askFail s
  if fails then accessFault r.offset .write s else k (portWrite r w s)

/-! ### Host accesses -/

/-- The host reads a register while the engine is Idle (R120); it is refused otherwise (R195, log
entry 11). A failing access has no effect and yields no word (log entry 12). -/
def hostRead (r : RdReg) (s : State) : Host.Outcome State Fault Refusal :=
  match s.eng.mode with
  | .idle =>
    let (fails, s) := askFail s
    if fails then .next { s with ret := .accessFailed }
    else
      let (w, s) := portRead r s
      .next { s with ret := .word w }
  | .run | .faulted => .next (markRefused .concurrent s)

/-- The host writes a register while the engine is Idle (R120); as `hostRead` otherwise. -/
def hostWrite (r : WrReg) (w : Word) (s : State) : Host.Outcome State Fault Refusal :=
  match s.eng.mode with
  | .idle =>
    let (fails, s) := askFail s
    if fails then .next { s with ret := .accessFailed }
    else .next { portWrite r w s with ret := .done }
  | .run | .faulted => .next (markRefused .concurrent s)

/-! ### Commands -/

/-- The first label of a command's step table (files 41 to 44); the other operations have none. -/
def firstLabel : Instr → Label
  | .readStatus => .rs0
  | .readInterruptStatus => .ri0
  | .resetInterruptStatus => .ci0
  | .enableDevice | .disableDevice | .startTransfer | .endTransfer | .enableGeneralCall
  | .disableGeneralCall | .resetTxFifo | .clearTxFifoReset => .t0
  | .enqueueWord _ _ _ => .eq0
  | .dequeueWord => .dq0
  | .initDevice | .writeReg _ _ _ | .readReg _ _ | .readRegSel _ _ _ => .p0
  | .rdIsr | .wrIsr _ | .wrSoftr _ | .rdCr | .wrCr _ | .rdSr | .wrTxFifo _ | .rdRxFifo | .rdRxPirq
  | .wrRxPirq _ | .rdGpo | .wrGpo _ | .getBit _ _ | .setBit _ _ _ | .decodeStatus _
  | .decodeISR _ => .rs0

/-- On acceptance the command is latched whole and the engine set running (R96, R178); an operand
out of range is refused (R98). `eng.tmp`, `eng.st`, `eng.isr` and `eng.i`, to which R35 gives no value
until a step of this operation writes them, keep what they held (DESIGN CHOICE, unsafe; log entry 35). -/
def acceptCommand (i : Instr) (s : State) : State :=
  if i.wf then
    { s with eng := { s.eng with cmd := i, upc := firstLabel i, mode := .run }, ret := .done }
  else markRefused .badCommand s

/-- A command: Idle, it is admitted; running and the one in flight, its next engine step is taken
from its step table (R176); anything else is a second call path (R178, R195; log entry 33). -/
def command (i : Instr) (table : State → Host.Outcome State Fault Refusal) (s : State) :
    Host.Outcome State Fault Refusal :=
  match s.eng.mode with
  | .idle => .next (acceptCommand i s)
  | .run => if s.eng.cmd = i then table s else .next (markRefused .concurrent s)
  | .faulted => .next (markRefused .concurrent s)

/-- A pure function's value goes back to the host; no access, no state (R150, log entry 14). -/
def pureResult (v : HostReturn) (s : State) : Host.Outcome State Fault Refusal :=
  .next { s with ret := v }

end Sys2Proof.Machine
end

