-- ==== Sys2Proof/Machine/Bus.lean ====
section
/-! DEFINITION. The controller's bus side (45_bus_side.md R211 to R227, R232): which step is enabled,
and what each does. -/

namespace Sys2Proof.Machine

/-- The steps of the bus side, named as the rules name them. -/
inductive BusMove where
  /-- R212 -/
  | popStart (e : Entry)
  /-- R213 -/
  | popRepStart (e : Entry)
  /-- R214 -/
  | popData (e : Entry)
  /-- R215 -/
  | popCount (e : Entry)
  /-- R216: an entry outside the framing grammar is at the head -/
  | framing (e : Entry)
  /-- R217 (and R219) -/
  | addrDone (b : Byte) (stop : Bool)
  /-- R218 (and R219) -/
  | dataDone (b : Byte) (stop : Bool)
  /-- R220 -/
  | recv (n : Nat)
  /-- R221 -/
  | stop (halt : Bool)
  deriving DecidableEq, Repr

/-- Whether the head entry is a count entry: no start, stop, data 1 to 255 (R215, R216). -/
def countEntry (e : Entry) : Bool := !entryStart e && entryStop e && entryData e != 0#8

/-- The step enabled by the line state (R212 to R222), the static mode and the enable bit aside. -/
def lineMove (s : State) : Option BusMove :=
  match s.ls with
  | .idle =>
    match s.txf with
    | [] => none
    | e :: _ =>
      if entryStart e then (if s.env.extBusy then none else some (.popStart e))
      else some (.framing e)
  | .sendAddr b stop => some (.addrDone b stop)
  | .txWait =>
    match s.txf with
    | [] => none
    | e :: _ => if entryStart e then some (.popRepStart e) else some (.popData e)
  | .sendData b stop => some (.dataDone b stop)
  | .rxCountWait =>
    match s.txf with
    | [] => none
    | e :: _ => if countEntry e then some (.popCount e) else some (.framing e)
  | .rx n => if s.rxf.length < s.params.rxDepth then some (.recv n) else none
  | .stopping halt => some (.stop halt)
  | .halted => none

/-- Static mode: EN = 1 and MSMS = 1, in which the bus side is refused (R232). -/
def staticMode (s : State) : Bool := crEn s.cr && crMsms s.cr

/-- The one bus-side step enabled in a state, if any (R211); `none` is "quiescent". -/
def busMove (s : State) : Option BusMove :=
  if crEn s.cr && !crMsms s.cr && !s.framingBlocked then lineMove s else none

/-- `PopTX()` (R224): the oldest entry leaves; tx_empty and tx_half by the length left. -/
def popTx (s : State) : State :=
  let s := { s with txf := s.txf.tail }
  let s := raiseFlag (s.txf.length == 0) flagTxEmpty s
  raiseFlag (s.txf.length == s.params.txDepth / 2) flagTxHalf s

/-- `raise FramingFault(e)` (R216): recorded; the bus side takes no further step until the device is
disabled or reset. -/
def raiseFraming (e : Entry) (s : State) : State :=
  recordFault (.framingFault e) { s with framingBlocked := true }

/-- A byte was not acknowledged: `ISR[1] <- 1; ls <- Stopping(true)` (R217, R218). -/
def notAcknowledged (s : State) : State :=
  { raiseFlag true flagError s with ls := .stopping true }

/-- `Lost` (R219): the winner owns the bus. -/
def loseArbitration (s : State) : State :=
  let s := emit .lost s
  let s := raiseFlag true flagArbLost s
  let s := raiseFlag s.params.arbLostSetsError flagError s
  { s with ls := .halted, env := { s.env with extBusy := true } }

/-- An acknowledged address byte (R217). -/
def addrAcked (b : Byte) (stop : Bool) (s : State) : State :=
  if b.getLsbD 0 then
    if stop then raiseFraming (entryOfAddr b stop) s else { s with ls := .rxCountWait }
  else if stop then { s with ls := .stopping false } else { s with ls := .txWait }

/-- `AddrDone` (R217). -/
def addrDone (b : Byte) (stop : Bool) (s : State) : State :=
  let (ack, s) := askAck (.addr b) s
  let s := emit (.addr b ack) s
  if ack then addrAcked b stop s else notAcknowledged s

/-- `DataDone` (R218). -/
def dataDone (b : Byte) (stop : Bool) (s : State) : State :=
  let (ack, s) := askAck (.txb b) s
  let s := emit (.txb b ack) s
  if ack then { s with ls := if stop then .stopping false else .txWait } else notAcknowledged s

/-- A byte being sent: the environment may win arbitration where it could answer (R211, R219). -/
def orLost (done : State → State) (s : State) : State :=
  let (lost, s) := askLost s
  if lost then loseArbitration s else done s

/-- `Recv` (R220). -/
def recv (n : Nat) (s : State) : State :=
  let (b, s) := askByte s
  let s := { s with rxf := s.rxf ++ [b] }
  let s := raiseFlag (decide (s.rxPirq.toNat + 1 ≤ s.rxf.length)) flagRxFull s
  let s := emit (.rxb b (decide (1 < n))) s
  { s with ls := if 1 < n then .rx (n - 1) else .stopping false }

/-- `Stop` (R221). -/
def stopDone (halt : Bool) (s : State) : State :=
  let s := emit .stop s
  { raiseFlag true flagNotBusy s with ls := if halt then .halted else .idle }

/-- The effect of a bus-side step. -/
def doMove (m : BusMove) (s : State) : State :=
  match m with
  | .popStart e => { emit .start (popTx s) with ls := .sendAddr (entryData e) (entryStop e) }
  | .popRepStart e => { emit .rstart (popTx s) with ls := .sendAddr (entryData e) (entryStop e) }
  | .popData e => { popTx s with ls := .sendData (entryData e) (entryStop e) }
  | .popCount e => { popTx s with ls := .rx (entryData e).toNat }
  | .framing e => raiseFraming e s
  | .addrDone b stop => orLost (addrDone b stop) s
  | .dataDone b stop => orLost (dataDone b stop) s
  | .recv n => recv n s
  | .stop halt => stopDone halt s

/-- A turn of the bus side. In static mode the question sets the refusal mark, and once it is set the
bus side says nothing more (R232; log entry 10). A quiescent bus side passes (log entry 23). -/
def busStep (s : State) : Host.Outcome State Fault Refusal :=
  if .staticModeNotSpecified ∈ s.refused then .refused .staticModeNotSpecified
  else if staticMode s then .next (markRefused .staticModeNotSpecified s)
  else
    match busMove s with
    | none => .next s
    | some m => .next (doMove m s)

/-- Whether a turn of the bus side would do something: the two named schedules give it the turn
exactly then. -/
def busWants (s : State) : Bool :=
  !decide (.staticModeNotSpecified ∈ s.refused) && (staticMode s || (busMove s).isSome)

end Sys2Proof.Machine
end

