-- ==== Sys2Proof/Machine/Codec.lean ====
section
/-! DEFINITION. The four pure functions and the three register-reading operations
(41_bit_codec_decoders.md R150 to R156). -/

namespace Sys2Proof.Machine

/-- `getBit` (R150). -/
def execGetBit (word : Word) (offset : BitVec 5) (s : State) : Host.Outcome State Fault Refusal :=
  pureResult (.flag (getBit word offset)) s

/-- `setBit` (R151). -/
def execSetBit (word : Word) (offset : BitVec 5) (value : Bool) (s : State) :
    Host.Outcome State Fault Refusal :=
  pureResult (.word (setBit word offset value)) s

/-- `decodeStatus` (R152). -/
def execDecodeStatus (r : Word) (s : State) : Host.Outcome State Fault Refusal :=
  pureResult (.status (decodeStatus r)) s

/-- `decodeISR` (R153). -/
def execDecodeISR (r : Word) (s : State) : Host.Outcome State Fault Refusal :=
  pureResult (.isrFlags (decodeISR r)) s

/-- Step table RS0 (R154): `eng.st <- decodeStatus(RegRead(0x104)); res.status <- eng.st`. -/
def readStatusTable (s : State) : Host.Outcome State Fault Refusal :=
  match s.eng.upc with
  | .rs0 => .next (engRead .sr
      (fun r s => finish { setSt r s with res := { s.res with status := lowByte r } }) s)
  | _ => .refused .labelNotOfOperation

/-- Step table RI0 (R155): `eng.isr <- decodeISR(RegRead(0x020)); res.isr <- eng.isr`. -/
def readInterruptStatusTable (s : State) : Host.Outcome State Fault Refusal :=
  match s.eng.upc with
  | .ri0 => .next (engRead .isr
      (fun r s => finish { setEngIsr r s with res := { s.res with isr := lowByte r } }) s)
  | _ => .refused .labelNotOfOperation

/-- Step table CI0, CI1 (R156): a discarded read, then zero to the same address. -/
def resetInterruptStatusTable (s : State) : Host.Outcome State Fault Refusal :=
  match s.eng.upc with
  | .ci0 => .next (engRead .isr (fun r s => goto .ci1 (setTmp r s)) s)
  | .ci1 => .next (engWrite .isr 0x00000000#32 finish s)
  | _ => .refused .labelNotOfOperation

/-- `readStatus` (R154). -/
def execReadStatus (s : State) : Host.Outcome State Fault Refusal :=
  command .readStatus readStatusTable s

/-- `readInterruptStatus` (R155). -/
def execReadInterruptStatus (s : State) : Host.Outcome State Fault Refusal :=
  command .readInterruptStatus readInterruptStatusTable s

/-- `resetInterruptStatus` (R156). -/
def execResetInterruptStatus (s : State) : Host.Outcome State Fault Refusal :=
  command .resetInterruptStatus resetInterruptStatusTable s

end Sys2Proof.Machine
end

