-- ==== Sys2Proof/Machine/RegisterAccess.lean ====
section
/-! DEFINITION. The twelve register-port operations as the host issues them (40_register_access.md
R121 to R132); the engine's own accesses use the same port operations of Ops.lean. -/

namespace Sys2Proof.Machine

/-- `RD.ISR`: `r <- zext_32(ISR[7:0])`, clears nothing (R124). -/
def execRdIsr (s : State) : Host.Outcome State Fault Refusal := hostRead .isr s

/-- `WR.ISR`: `ISR[7:0] <- w[7:0]` (R125). -/
def execWrIsr (w : Word) (s : State) : Host.Outcome State Fault Refusal := hostWrite .isr w s

/-- `WR.SOFTR`: soft reset with the key 0x0000000A, else refused (R129). -/
def execWrSoftr (w : Word) (s : State) : Host.Outcome State Fault Refusal := hostWrite .softr w s

/-- `RD.CR`: `r <- CR` (R121). -/
def execRdCr (s : State) : Host.Outcome State Fault Refusal := hostRead .cr s

/-- `WR.CR`: store, flush on TXRST, abandon on EN 1 to 0 (R122). -/
def execWrCr (w : Word) (s : State) : Host.Outcome State Fault Refusal := hostWrite .cr w s

/-- `RD.SR`: the status flags at this instant (R123). -/
def execRdSr (s : State) : Host.Outcome State Fault Refusal := hostRead .sr s

/-- `WR.TX_FIFO`: pushes one entry (R126). -/
def execWrTxFifo (w : Word) (s : State) : Host.Outcome State Fault Refusal := hostWrite .txFifo w s

/-- `RD.RX_FIFO`: pops one byte (R127). -/
def execRdRxFifo (s : State) : Host.Outcome State Fault Refusal := hostRead .rxFifo s

/-- `RD.RX_PIRQ`: `r <- zext_32(RX_PIRQ)` (R130). -/
def execRdRxPirq (s : State) : Host.Outcome State Fault Refusal := hostRead .rxPirq s

/-- `WR.RX_PIRQ`: `RX_PIRQ <- w[RX_PIRQ_BITS-1 : 0]` (R128). -/
def execWrRxPirq (w : Word) (s : State) : Host.Outcome State Fault Refusal := hostWrite .rxPirq w s

/-- `RD.GPO`: `r <- GPO` (R132). -/
def execRdGpo (s : State) : Host.Outcome State Fault Refusal := hostRead .gpo s

/-- `WR.GPO`: `GPO <- w`, the pins follow at once (R131). -/
def execWrGpo (w : Word) (s : State) : Host.Outcome State Fault Refusal := hostWrite .gpo w s

end Sys2Proof.Machine
end

