-- ==== Sys2Proof/Machine/Toggles.lean ====
section
/-! DEFINITION. The eight control-register toggles (42_control_toggles.md R160 to R168). -/

namespace Sys2Proof.Machine

/-- Step table T0, T1 (R160): "read current control word → set or clear exactly one bit → write
back", two accesses, not atomic. -/
def toggleTable (bit : BitVec 5) (value : Bool) (s : State) : Host.Outcome State Fault Refusal :=
  match s.eng.upc with
  | .t0 => .next (engRead .cr (fun r s => goto .t1 (setTmp r s)) s)
  | .t1 => .next (engWrite .cr (setBit s.eng.tmp bit value) finish s)
  | _ => .refused .labelNotOfOperation

/-- `enableDevice` (R161): bit 0 set. -/
def execEnableDevice (s : State) : Host.Outcome State Fault Refusal :=
  command .enableDevice (toggleTable crEnBit true) s

/-- `disableDevice` (R162): bit 0 cleared; a transfer in flight is abandoned. -/
def execDisableDevice (s : State) : Host.Outcome State Fault Refusal :=
  command .disableDevice (toggleTable crEnBit false) s

/-- `startTransfer` (R163): bit 2 set; with EN = 1 the bus side is then refused. -/
def execStartTransfer (s : State) : Host.Outcome State Fault Refusal :=
  command .startTransfer (toggleTable crMsmsBit true) s

/-- `endTransfer` (R164): bit 2 cleared. -/
def execEndTransfer (s : State) : Host.Outcome State Fault Refusal :=
  command .endTransfer (toggleTable crMsmsBit false) s

/-- `enableGeneralCall` (R165): bit 6 set, no effect on the master function. -/
def execEnableGeneralCall (s : State) : Host.Outcome State Fault Refusal :=
  command .enableGeneralCall (toggleTable crGcenBit true) s

/-- `disableGeneralCall` (R166): bit 6 cleared. -/
def execDisableGeneralCall (s : State) : Host.Outcome State Fault Refusal :=
  command .disableGeneralCall (toggleTable crGcenBit false) s

/-- `resetTxFifo` (R167): bit 1 set; the transmit FIFO is emptied and held empty. -/
def execResetTxFifo (s : State) : Host.Outcome State Fault Refusal :=
  command .resetTxFifo (toggleTable crTxrstBit true) s

/-- `clearTxFifoReset` (R168): bit 1 cleared; the transmit FIFO accepts entries again. -/
def execClearTxFifoReset (s : State) : Host.Outcome State Fault Refusal :=
  command .clearTxFifoReset (toggleTable crTxrstBit false) s

end Sys2Proof.Machine
end

