-- ==== Sys2Proof/Machine/Fifo.lean ====
section
/-! DEFINITION. The two FIFO primitives (43_fifo_primitives.md R170 to R172): neither looks at the
status register. -/

namespace Sys2Proof.Machine

/-- `res.data[i] <- b`. -/
def setData (i : Nat) (b : Byte) (s : State) : State :=
  { s with res := { s.res with data := memWrite s.res.data i b } }

/-- Step table EQ0 (R170). -/
def enqueueTable (byte : Byte) (isStart isStop : Bool) (s : State) :
    Host.Outcome State Fault Refusal :=
  match s.eng.upc with
  | .eq0 => .next (engWrite .txFifo (entryWord byte isStart isStop) finish s)
  | _ => .refused .labelNotOfOperation

/-- Step table DQ0 (R171). -/
def dequeueTable (s : State) : Host.Outcome State Fault Refusal :=
  match s.eng.upc with
  | .dq0 => .next (engRead .rxFifo (fun r s => finish (setData 0 (lowByte r) (setTmp r s))) s)
  | _ => .refused .labelNotOfOperation

/-- `enqueueWord` (R170). -/
def execEnqueueWord (byte : Byte) (isStart isStop : Bool) (s : State) :
    Host.Outcome State Fault Refusal :=
  command (.enqueueWord byte isStart isStop) (enqueueTable byte isStart isStop) s

/-- `dequeueWord` (R171). -/
def execDequeueWord (s : State) : Host.Outcome State Fault Refusal :=
  command .dequeueWord dequeueTable s

end Sys2Proof.Machine
end

