-- ==== Sys2Proof/Machine/Transactions.lean ====
section
/-! DEFINITION. The transaction engine (44_transaction_engine.md R175 to R191): the prologue and the
three transactions, each a step table of one register access per step. -/

namespace Sys2Proof.Machine

/-- A poll of SR (R181, R184, R188): the flags read are kept in `eng.st`; where they meet the exit
condition the engine goes on, else it polls again at the same label. -/
def pollStep (label : Label) (exits : StatusWord → Bool) (leave : State → State) (s : State) : State :=
  engRead .sr (fun r s =>
    let s := setSt r s
    if exits (decodeStatus r) then leave s else goto label s) s

/-- One read-modify-write half: `eng.tmp <- RegRead(0x100)`. -/
def readCrStep (next : Label) (s : State) : State :=
  engRead .cr (fun r s => goto next (setTmp r s)) s

/-- The other half: `RegWrite(0x100, setBit(eng.tmp, bit, value))`. -/
def writeCrStep (bit : BitVec 5) (value : Bool) (leave : State → State) (s : State) : State :=
  engWrite .cr (setBit s.eng.tmp bit value) leave s

/-- Steps P0 to P14 (R179, R181); `leave` is the continuation after P14. -/
def prologueTable (leave : State → State) (s : State) : Host.Outcome State Fault Refusal :=
  match s.eng.upc with
  | .p0 => .next (engWrite .softr softrKey (goto .p1) s)
  | .p1 => .next (engWrite .rxPirq s.params.rxPirqInit (goto .p2) s)
  | .p2 => .next (readCrStep .p3 s)
  | .p3 => .next (writeCrStep crTxrstBit true (goto .p4) s)
  | .p4 => .next (readCrStep .p5 s)
  | .p5 => .next (writeCrStep crTxrstBit false (goto .p6) s)
  | .p6 => .next (engRead .isr (fun r s => goto .p7 (setTmp r s)) s)
  | .p7 => .next (engWrite .isr 0x00000000#32 (goto .p8) s)
  | .p8 => .next (readCrStep .p9 s)
  | .p9 => .next (writeCrStep crEnBit true (goto .p10) s)
  | .p10 => .next (readCrStep .p11 s)
  | .p11 => .next (writeCrStep crGcenBit false (goto .p12) s)
  | .p12 => .next (readCrStep .p13 s)
  | .p13 => .next (writeCrStep crTxrstBit false (goto .p14) s)
  | .p14 => .next (pollStep .p14 prologueExit leave s)
  | _ => .refused .labelNotOfOperation

/-- `eng.i <- eng.i + 1`, then the loop label while `eng.i < count`, else the exit (R183, R188). -/
def countLoop (count : Byte) (again leave : Label) (s : State) : State :=
  let s := setI (s.eng.i + 1#8) s
  goto (if s.eng.i.toNat < count.toNat then again else leave) s

/-- A dequeue into `res.data[eng.i]` (G3 and S5, R188). -/
def dequeueStep (count : Byte) (again leave : Label) (s : State) : State :=
  engRead .rxFifo (fun r s =>
    countLoop count again leave (setData s.eng.i.toNat (lowByte r) (setTmp r s))) s

/-- The diagnostic read of the read transactions (G4 and S6, R189). -/
def diagnosticStep (next : Label) (s : State) : State :=
  engRead .isr (fun r s =>
    goto next { setEngIsr r s with res := { s.res with isr := lowByte r } }) s

/-- Steps W0 to W5 (R183 to R185) after the prologue. -/
def writeRegTable (address : Address) (count : Byte) (data : List Byte) (s : State) :
    Host.Outcome State Fault Refusal :=
  match s.eng.upc with
  | .w0 => .next (engWrite .txFifo (addrWord address false) (fun s => goto .w1 (setI 0#8 s)) s)
  | .w1 => .next (engWrite .txFifo
      (dataWord (data.getD s.eng.i.toNat 0#8) (s.eng.i == count - 1#8))
      (countLoop count .w1 .w2) s)
  | .w2 => .next (pollStep .w2 writeExit (goto .w3) s)
  | .w3 => .next (engRead .isr (fun r s => goto .w4 (setEngIsr r s)) s)
  | .w4 => .next (readCrStep .w5 s)
  | .w5 => .next (writeCrStep crEnBit false
      (fun s => finish { s with res :=
        { s.res with fail := (decodeISR (s.eng.isr.setWidth 32)).errorOrComplete } }) s)
  | _ => prologueTable (goto .w0) s

/-- Steps G0 to G6 (R187 to R189) after the prologue. -/
def readRegTable (address : Address) (count : Byte) (s : State) :
    Host.Outcome State Fault Refusal :=
  match s.eng.upc with
  | .g0 => .next (engWrite .txFifo (addrWord address true) (goto .g1) s)
  | .g1 => .next (engWrite .txFifo (countWord count) (fun s => goto .g2 (setI 0#8 s)) s)
  | .g2 => .next (pollStep .g2 receiveExit (goto .g3) s)
  | .g3 => .next (dequeueStep count .g2 .g4 s)
  | .g4 => .next (diagnosticStep .g5 s)
  | .g5 => .next (readCrStep .g6 s)
  | .g6 => .next (writeCrStep crEnBit false finish s)
  | _ => prologueTable (goto .g0) s

/-- Steps S0 to S8 (R190, R191) after the prologue. -/
def readRegSelTable (address : Address) (regindex count : Byte) (s : State) :
    Host.Outcome State Fault Refusal :=
  match s.eng.upc with
  | .s0 => .next (engWrite .txFifo (addrWord address false) (goto .s1) s)
  | .s1 => .next (engWrite .txFifo (indexWord regindex) (goto .s2) s)
  | .s2 => .next (engWrite .txFifo (addrWord address true) (goto .s3) s)
  | .s3 => .next (engWrite .txFifo (countWord count) (fun s => goto .s4 (setI 0#8 s)) s)
  | .s4 => .next (pollStep .s4 receiveExit (goto .s5) s)
  | .s5 => .next (dequeueStep count .s4 .s6 s)
  | .s6 => .next (diagnosticStep .s7 s)
  | .s7 => .next (readCrStep .s8 s)
  | .s8 => .next (writeCrStep crEnBit false finish s)
  | _ => prologueTable (goto .s0) s

/-- `INIT` (R179): the prologue alone. -/
def execInitDevice (s : State) : Host.Outcome State Fault Refusal :=
  command .initDevice (prologueTable finish) s

/-- `WRITE_REG` (R182). -/
def execWriteReg (address : Address) (count : Byte) (data : List Byte) (s : State) :
    Host.Outcome State Fault Refusal :=
  command (.writeReg address count data) (writeRegTable address count data) s

/-- `READ_REG` (R186). -/
def execReadReg (address : Address) (count : Byte) (s : State) :
    Host.Outcome State Fault Refusal :=
  command (.readReg address count) (readRegTable address count) s

/-- `READ_REG_SEL` (R190). -/
def execReadRegSel (address : Address) (regindex count : Byte) (s : State) :
    Host.Outcome State Fault Refusal :=
  command (.readRegSel address regindex count) (readRegSelTable address regindex count) s

end Sys2Proof.Machine
end

