-- ==== Sys2Proof/Machine/Dispatch.lean ====
section
/-! DEFINITION. One arm per operation of spec/opcode_table.json. -/

namespace Sys2Proof.Machine

def exec (i : Instr) (s : State) : Host.Outcome State Fault Refusal :=
  match i with
  | .rdIsr => Sys2Proof.Machine.execRdIsr s
  | .wrIsr w => Sys2Proof.Machine.execWrIsr w s
  | .wrSoftr w => Sys2Proof.Machine.execWrSoftr w s
  | .rdCr => Sys2Proof.Machine.execRdCr s
  | .wrCr w => Sys2Proof.Machine.execWrCr w s
  | .rdSr => Sys2Proof.Machine.execRdSr s
  | .wrTxFifo w => Sys2Proof.Machine.execWrTxFifo w s
  | .rdRxFifo => Sys2Proof.Machine.execRdRxFifo s
  | .rdRxPirq => Sys2Proof.Machine.execRdRxPirq s
  | .wrRxPirq w => Sys2Proof.Machine.execWrRxPirq w s
  | .rdGpo => Sys2Proof.Machine.execRdGpo s
  | .wrGpo w => Sys2Proof.Machine.execWrGpo w s
  | .readStatus => Sys2Proof.Machine.execReadStatus s
  | .readInterruptStatus => Sys2Proof.Machine.execReadInterruptStatus s
  | .resetInterruptStatus => Sys2Proof.Machine.execResetInterruptStatus s
  | .enableDevice => Sys2Proof.Machine.execEnableDevice s
  | .disableDevice => Sys2Proof.Machine.execDisableDevice s
  | .startTransfer => Sys2Proof.Machine.execStartTransfer s
  | .endTransfer => Sys2Proof.Machine.execEndTransfer s
  | .enableGeneralCall => Sys2Proof.Machine.execEnableGeneralCall s
  | .disableGeneralCall => Sys2Proof.Machine.execDisableGeneralCall s
  | .resetTxFifo => Sys2Proof.Machine.execResetTxFifo s
  | .clearTxFifoReset => Sys2Proof.Machine.execClearTxFifoReset s
  | .enqueueWord byte isStart isStop => Sys2Proof.Machine.execEnqueueWord byte isStart isStop s
  | .dequeueWord => Sys2Proof.Machine.execDequeueWord s
  | .initDevice => Sys2Proof.Machine.execInitDevice s
  | .writeReg address count data => Sys2Proof.Machine.execWriteReg address count data s
  | .readReg address count => Sys2Proof.Machine.execReadReg address count s
  | .readRegSel address regindex count => Sys2Proof.Machine.execReadRegSel address regindex count s
  | .getBit word offset => Sys2Proof.Machine.execGetBit word offset s
  | .setBit word offset value => Sys2Proof.Machine.execSetBit word offset value s
  | .decodeStatus r => Sys2Proof.Machine.execDecodeStatus r s
  | .decodeISR r => Sys2Proof.Machine.execDecodeISR r s

end Sys2Proof.Machine
end

