-- ==== Sys2Proof/Machine/Agents.lean ====
section
/-! DEFINITION. Who moves, and what one turn of each agent is (00_scope.md R9, 45_bus_side.md R231,
60_exceptions.md R275). -/

namespace Sys2Proof.Machine

/-! ### The host -/

/-- The refusal a decoding error is (R259). -/
def refusalOf : DecodeError → Refusal
  | .reservedAccess => .reservedAccess
  | .badCommand => .badCommand

/-- A raw access at the register access primitive as a REGOP: 32 bits wide, at `I2C_BASE + off` with
`off` in the 12-bit window; `none` for any other width or address (20_memory.md R61, R65, R68). -/
def regopOfAccess (p : Params) (write : Bool) (address bytes : Nat) (data : Word) :
    Option Presented :=
  if bytes = 4 ∧ p.i2cBase ≤ address ∧ address < p.i2cBase + 2 ^ 12 then
    some (.regop (regopPattern write (BitVec.ofNat 12 (address - p.i2cBase))) data)
  else none

/-- A command or raw access: refused as Concurrent unless the engine is Idle (R178, R195), refused by
name where it does not decode (R265: "before anything executes"), else the instruction runs. A request
with both reasons records Concurrent only; the spec orders no two refusals (DESIGN CHOICE, safe; log
entry 36). -/
def presentStep (p : Presented) (s : State) : Host.Outcome State Fault Refusal :=
  if s.eng.mode = .idle then
    match decode p with
    | .ok i => exec i s
    | .error e => .next (markRefused (refusalOf e) s)
  else .next (markRefused .concurrent s)

/-- One host action (R275); acknowledging an Idle engine does nothing (log entry 28). -/
def hostAction (a : HostAction) (s : State) : Host.Outcome State Fault Refusal :=
  match a with
  | .present p => presentStep p s
  | .access write address bytes data =>
    match regopOfAccess s.params write address bytes data with
    | some p => presentStep p s
    | none =>
      .next (markRefused (if s.eng.mode = .idle then .reservedAccess else .concurrent) s)
  | .call f => exec f.toInstr s
  | .ackFault =>
    match s.eng.mode with
    | .faulted => .next (acknowledge s)
    | .idle => .next s
    | .run => .next (markRefused .concurrent s)
  | .rst => .next (powerOnReset s)

/-- A turn of the host: its next action, if it has one. -/
def hostStep (s : State) : Host.Outcome State Fault Refusal :=
  match s.inputs with
  | [] => .next s
  | a :: rest => hostAction a { s with inputs := rest }

/-! ### The engine -/

/-- A turn of the engine: running, the step labelled `eng.upc` of the latched command (R176);
otherwise it has no enabled step. -/
def engineStep (s : State) : Host.Outcome State Fault Refusal :=
  if s.eng.mode = .run then exec s.eng.cmd s else .next s

/-! ### The schedule -/

/-- Whether the engine stands at a poll whose exit condition is false in this state (R231). -/
def pollWaits (s : State) : Bool := pollExit s.eng.upc (statusNow s) == some false

/-- Who moves when no turn is queued (R231): eager-bus lets the bus side run until quiescent after
every engine step and host action; lazy-bus lets it take one step only where the engine's poll would
fail; the free schedule draws. -/
def policyAgent (s : State) : Agent :=
  match s.policy with
  | .eager => if busWants s then .bus else if s.eng.mode = .run then .engine else .host
  | .lazy =>
    if s.eng.mode = .run then (if pollWaits s && busWants s then .bus else .engine) else .host
  | .free => Config.freeAgent s.draws

/-- The next mover, and the state with its turn taken off the queue. -/
def nextAgent (s : State) : Agent × State :=
  match s.turns with
  | a :: rest => (a, { s with turns := rest })
  | [] => (policyAgent s, if s.policy = .free then { s with draws := s.draws + 1 } else s)

/-- One turn of one agent. -/
def act (a : Agent) (s : State) : Host.Outcome State Fault Refusal :=
  match a with
  | .host => hostStep s
  | .engine => engineStep s
  | .bus => busStep s
  | .env => .next (envStep s)

/-- The reason the run has been refused, where it stops everything (R259); the static mode stops only
the bus side (R232, log entry 10). -/
def stopReason (s : State) : Option Refusal :=
  s.refused.find? fun r => r != .staticModeNotSpecified

/-- One step of the machine. -/
def stepOnce (s : State) : Host.Outcome State Fault Refusal :=
  match stopReason s with
  | some r => .refused r
  | none =>
    let (a, s) := nextAgent s
    act a s

/-- A state whose very next step is the host presenting a table word to an Idle engine (host
interface, log entry 17). -/
def presentNext (s : State) (nbits w : Nat) : State :=
  { s with
    inputs := .present (presentedOfWord nbits w) :: s.inputs
    turns := .host :: s.turns
    refused := []
    eng := { s.eng with mode := .idle } }

end Sys2Proof.Machine
end

