-- ==== Sys2Proof/Machine/Step.lean ====
section
/-! DEFINITION. The step of the machine and the host's way to have one instruction fetched. -/

namespace Sys2Proof.Machine

/-- One step: one turn of one agent (00_scope.md R9). -/
def step (s : State) : Host.Outcome State Fault Refusal := stepOnce s

/-- `s` with a table word placed where the next step takes its instruction from (log entry 17). -/
def State.withFetchWord (s : State) (nbits w : Nat) : State := presentNext s nbits w

end Sys2Proof.Machine
end

