-- ==== Sys2Proof/Machine/BringUp.lean ====
section
/-! DEFINITION. The device bring-up sequence (46_bringup_caller.md R240 to R247): the example caller,
host software outside the block (00_scope.md R5 (6)). It is here as a pure description of what that
host presents next and how it judges the results; no step of the machine calls it (log entry 29). -/

namespace Sys2Proof.Machine

/-- The bring-up literals, all OPEN (R6, R241 to R244). -/
structure BringUpParams where
  gpoSwitchResetBit : BitVec 5
  gpoClkdevResetBit : BitVec 5
  gpoAssertLevel : Bool
  switchAddr : Address
  switchPortByte : Byte
  clkdevAddr : Address
  /-- `CONFIG_LIST`: (register, bytes) pairs in order (R247) -/
  configList : List (Byte × List Byte)
  readyReg : Byte
  readyBit : Fin 8
  deriving DecidableEq, Repr

/-- Why the sequence was aborted (R240, R242, R243). -/
inductive BringUpFailure where
  /-- a register access of the step failed: the raw access of a reset pulse, or an access of a
  transaction, which leaves the engine Faulted (60_exceptions.md R257) -/
  | accessFailed
  /-- a write transaction reported `res.fail` -/
  | writeFailed
  /-- the switch position read back is not the port byte -/
  | switchMismatch
  /-- "Register i failed" for the first mismatching index -/
  | registerFailed (i : Nat)
  deriving DecidableEq, Repr

/-- Where the caller stands in its ordered list of steps (R240). -/
inductive BringUpPhase where
  /-- step 1: assert, then release, the switch's reset line -/
  | assertSwitch
  | releaseSwitch
  /-- step 2: the clock device's reset line likewise -/
  | assertClkdev
  | releaseClkdev
  /-- step 3 -/
  | selectPort
  /-- step 4 -/
  | verifyPort
  /-- step 5: write the first entry of what is left of CONFIG_LIST -/
  | writeConfig (left : List (Byte × List Byte))
  /-- step 5: read back the entry just written -/
  | readBack (reg : Byte) (bytes : List Byte) (left : List (Byte × List Byte))
  /-- step 6 -/
  | pollReady
  | ready
  | aborted (why : BringUpFailure)
  deriving DecidableEq, Repr

/-- The GPO word that puts one reset line at a level, built on the word the caller last wrote (R241
does not say whether it reads GPO first; log entry 29). -/
def resetLineWord (gpo : Word) (bit : BitVec 5) (level : Bool) : Word := setBit gpo bit level

/-- The operation the caller issues in a phase (R241 to R244); none once it has ended. -/
def bringUpInstr (p : BringUpParams) (gpo : Word) : BringUpPhase → Option Instr
  | .assertSwitch => some (.wrGpo (resetLineWord gpo p.gpoSwitchResetBit p.gpoAssertLevel))
  | .releaseSwitch => some (.wrGpo (resetLineWord gpo p.gpoSwitchResetBit !p.gpoAssertLevel))
  | .assertClkdev => some (.wrGpo (resetLineWord gpo p.gpoClkdevResetBit p.gpoAssertLevel))
  | .releaseClkdev => some (.wrGpo (resetLineWord gpo p.gpoClkdevResetBit !p.gpoAssertLevel))
  | .selectPort => some (.writeReg p.switchAddr 1#8 [p.switchPortByte])
  | .verifyPort => some (.readReg p.switchAddr 1#8)
  | .writeConfig ((reg, bytes) :: _) =>
    some (.writeReg p.clkdevAddr (BitVec.ofNat 8 (bytes.length + 1)) (reg :: bytes))
  | .writeConfig [] => none
  | .readBack reg bytes _ => some (.readRegSel p.clkdevAddr reg (BitVec.ofNat 8 bytes.length))
  | .pollReady => some (.readRegSel p.clkdevAddr p.readyReg 1#8)
  | .ready => none
  | .aborted _ => none

/-- The first index at which what was read differs from what was written (R243), counting from `i`. -/
def firstMismatch (read : Nat → Byte) : Nat → List Byte → Option Nat
  | _, [] => none
  | i, b :: rest => if read i = b then firstMismatch read (i + 1) rest else some i

/-- The configuration entries left, or the ready poll when there is none. -/
def nextConfig : List (Byte × List Byte) → BringUpPhase
  | [] => .pollReady
  | left => .writeConfig left

/-- How the caller judges a step whose accesses all succeeded, by `res.fail` and `res.data`: any
mismatch fatal, no retry (R242 to R244, R246). -/
def bringUpJudge (p : BringUpParams) (fail : Bool) (read : Nat → Byte) :
    BringUpPhase → BringUpPhase
  | .assertSwitch => .releaseSwitch
  | .releaseSwitch => .assertClkdev
  | .assertClkdev => .releaseClkdev
  | .releaseClkdev => .selectPort
  | .selectPort => if fail then .aborted .writeFailed else .verifyPort
  | .verifyPort =>
    if read 0 = p.switchPortByte then nextConfig p.configList else .aborted .switchMismatch
  | .writeConfig ((reg, bytes) :: left) =>
    if fail then .aborted .writeFailed else .readBack reg bytes left
  | .writeConfig [] => .pollReady
  | .readBack _ bytes left =>
    match firstMismatch read 0 bytes with
    | some i => .aborted (.registerFailed i)
    | none => nextConfig left
  | .pollReady => if (read 0).getLsbD p.readyBit.val then .pollReady else .ready
  | .ready => .ready
  | .aborted why => .aborted why

/-- What the caller does when the operation of a phase has ended: each step depends "on success of the
previous", and a failed step aborts the sequence (R240). A step has failed, whatever else it shows,
where one of its register accesses failed; a phase that issues no operation has none. -/
def bringUpNext (p : BringUpParams) (accessFailed fail : Bool) (read : Nat → Byte)
    (phase : BringUpPhase) : BringUpPhase :=
  if accessFailed && (bringUpInstr p 0#32 phase).isSome then .aborted .accessFailed
  else bringUpJudge p fail read phase

/-- Whether the operation that has just ended met a failed register access, as the host sees it: a raw
access hands the failure back (log entries 12, 13), a command leaves the engine Faulted (R257). -/
def bringUpAccessFailed (s : State) : Bool := s.ret == .accessFailed || s.eng.mode == .faulted

/-- The caller's next phase in a state in which the operation it issued has ended (R37, R240). -/
def bringUpAfter (p : BringUpParams) (s : State) (phase : BringUpPhase) : BringUpPhase :=
  bringUpNext p (bringUpAccessFailed s) s.res.fail (memRead s.res.data) phase

end Sys2Proof.Machine
end

