-- ==== Sys2Proof/Safety.lean ====
section
/-! DEFINITION. What counts as a safe run, in the terms the statements use: the invariants of
10_state.md R43 and of the step tables, a good final state (60_exceptions.md R262), quiescence and the
two named scheduling assumptions (70_reset_and_hazards.md R297), and the words the statements about
one engine step share. -/

namespace Sys2Proof.Machine

/-! ### Runs -/

/-- `n` steps in a row of the machine. -/
def runSteps : Nat → State → Host.Outcome State Fault Refusal
  | 0, s => .next s
  | n + 1, s =>
    match step s with
    | .next t => runSteps n t
    | .fault f => .fault f
    | .refused r => .refused r

/-- One instruction run `n` times in a row: its admission and then its engine steps, no other agent
moving in between. -/
def execTimes : Nat → Instr → State → Host.Outcome State Fault Refusal
  | 0, _, s => .next s
  | n + 1, i, s =>
    match exec i s with
    | .next t => execTimes n i t
    | .fault f => .fault f
    | .refused r => .refused r

/-- A good final state (R262): the engine Idle, no fault recorded, no refusal. -/
abbrev GoodFinal (s : State) : Prop := s.eng.mode = .idle ∧ s.faults = [] ∧ s.refused = []

/-! ### The bus side and the schedule -/

/-- "A state in which no bus-side step is enabled is called quiescent" (45_bus_side.md R211). -/
abbrev Quiescent (s : State) : Prop := busMove s = none

/-- The bus side may take a step (R211) and has not been refused (R232). -/
abbrev BusOn (s : State) : Prop :=
  s.cr.getLsbD 0 = true ∧ s.cr.getLsbD 2 = false ∧ s.framingBlocked = false ∧
    Refusal.staticModeNotSpecified ∉ s.refused

/-- The labels of the four poll loops. -/
def pollLabels : List Label := [.p14, .w2, .g2, .s4]

/-- The step from `s` is an engine step: the turn is the engine's, and the engine runs. -/
abbrev EngineMoves (s : State) : Prop := (nextAgent s).1 = .engine ∧ s.eng.mode = .run

/-- QUIESCENT_POLL at one step (R297): an engine step at a poll label finds the bus side quiescent. -/
abbrev QuiescentPoll (s : State) : Prop := EngineMoves s → s.eng.upc ∈ pollLabels → Quiescent s

/-- QUIESCENT_POLL over the next `n` steps (R297); a step that a refusal stops is none. -/
def quiescentPolls : Nat → State → Bool
  | 0, _ => true
  | n + 1, s =>
    match step s with
    | .next t => decide (QuiescentPoll s) && quiescentPolls n t
    | .fault _ | .refused _ => true

/-- Whether PopStart or PopRepStart is the enabled bus-side step. -/
def startEnabled (s : State) : Bool :=
  match busMove s with
  | some (.popStart _) | some (.popRepStart _) => true
  | _ => false

/-- Whether a PopStart or PopRepStart is owed after the step from `s` to `t` (PROMPT_START, R297): an
engine step owes one where it leaves one enabled; the bus side pays by taking it; any other step leaves
the debt as it was, EnvBusy too, which can disable a start that is owed. -/
def startOwed (owed : Bool) (s t : State) : Bool :=
  if EngineMoves s then startEnabled t
  else owed && !((nextAgent s).1 == .bus && startEnabled s)

/-- PROMPT_START over the next `n` steps from `s`, where `owed` says whether a start is owed in `s`:
"whenever an engine step leaves `PopStart` or `PopRepStart` enabled, that bus-side step is taken before
the next engine step" (R297). -/
def promptStarts : Bool → Nat → State → Bool
  | _, 0, _ => true
  | owed, n + 1, s =>
    match step s with
    | .next t => !(owed && decide (EngineMoves s)) && promptStarts (startOwed owed s t) n t
    | .fault _ | .refused _ => true

/-- PROMPT_START over the next `n` steps from a state in which no start is owed. -/
abbrev PromptStart (n : Nat) (s : State) : Prop := promptStarts false n s = true

/-! ### One engine step -/

/-- The state after the register access primitive has been asked whether this access fails: only the
environment's choice is used up. -/
def afterAsk (s : State) : State := (askFail s).2

/-- The engine stands at `label` of the operation `i` and its next access does not fail. -/
abbrev AtStep (i : Instr) (label : Label) (s : State) : Prop :=
  s.eng.mode = .run ∧ s.eng.cmd = i ∧ s.eng.upc = label ∧ (askFail s).1 = false

/-- The labels of the prologue. -/
def prologueLabels : List Label :=
  [.p0, .p1, .p2, .p3, .p4, .p5, .p6, .p7, .p8, .p9, .p10, .p11, .p12, .p13, .p14]

/-- The labels of an operation's step table (files 41 to 44); the operations that are no command
have none. -/
def stepLabels : Instr → List Label
  | .readStatus => [.rs0]
  | .readInterruptStatus => [.ri0]
  | .resetInterruptStatus => [.ci0, .ci1]
  | .enableDevice | .disableDevice | .startTransfer | .endTransfer | .enableGeneralCall
  | .disableGeneralCall | .resetTxFifo | .clearTxFifoReset => [.t0, .t1]
  | .enqueueWord _ _ _ => [.eq0]
  | .dequeueWord => [.dq0]
  | .initDevice => prologueLabels
  | .writeReg _ _ _ => prologueLabels ++ [.w0, .w1, .w2, .w3, .w4, .w5]
  | .readReg _ _ => prologueLabels ++ [.g0, .g1, .g2, .g3, .g4, .g5, .g6]
  | .readRegSel _ _ _ => prologueLabels ++ [.s0, .s1, .s2, .s3, .s4, .s5, .s6, .s7, .s8]
  | .rdIsr | .wrIsr _ | .wrSoftr _ | .rdCr | .wrCr _ | .rdSr | .wrTxFifo _ | .rdRxFifo | .rdRxPirq
  | .wrRxPirq _ | .rdGpo | .wrGpo _ | .getBit _ _ | .setBit _ _ _ | .decodeStatus _
  | .decodeISR _ => []

/-- The one register access of each step (files 41 to 44): its offset and direction. -/
def accessOf : Label → BitVec 12 × Dir
  | .rs0 | .p14 | .w2 | .g2 | .s4 => (0x104#12, .read)
  | .ri0 | .ci0 | .p6 | .w3 | .g4 | .s6 => (0x020#12, .read)
  | .ci1 | .p7 => (0x020#12, .write)
  | .t0 | .p2 | .p4 | .p8 | .p10 | .p12 | .w4 | .g5 | .s7 => (0x100#12, .read)
  | .t1 | .p3 | .p5 | .p9 | .p11 | .p13 | .w5 | .g6 | .s8 => (0x100#12, .write)
  | .eq0 | .w0 | .w1 | .g0 | .g1 | .s0 | .s1 | .s2 | .s3 => (0x108#12, .write)
  | .dq0 | .g3 | .s5 => (0x10C#12, .read)
  | .p0 => (0x040#12, .write)
  | .p1 => (0x120#12, .write)

/-- The number of bytes a transaction moves; other operations move none. -/
def transferCount : Instr → Nat
  | .writeReg _ count _ => count.toNat
  | .readReg _ count => count.toNat
  | .readRegSel _ _ count => count.toNat
  | .rdIsr | .wrIsr _ | .wrSoftr _ | .rdCr | .wrCr _ | .rdSr | .wrTxFifo _ | .rdRxFifo | .rdRxPirq
  | .wrRxPirq _ | .rdGpo | .wrGpo _ | .readStatus | .readInterruptStatus | .resetInterruptStatus
  | .enableDevice | .disableDevice | .startTransfer | .endTransfer | .enableGeneralCall
  | .disableGeneralCall | .resetTxFifo | .clearTxFifoReset | .enqueueWord _ _ _ | .dequeueWord
  | .initDevice | .getBit _ _ | .setBit _ _ _ | .decodeStatus _ | .decodeISR _ => 0

/-! ### Invariants -/

/-- The reference slaves' memories are in canonical form. -/
abbrev SlavesWf (s : State) : Prop :=
  match s.env.oracle with
  | .free => True
  | .sim devs => ∀ d ∈ devs, Memory.wf d.regs

/-- What every reachable state satisfies: 10_state.md R43, the engine at a label of the operation it
has latched, the loop index below the count in the loops, a byte waiting at every dequeue of a
transaction, and the canonical forms. -/
structure Inv (s : State) : Prop where
  txfBound : s.txf.length ≤ s.params.txDepth
  rxfBound : s.rxf.length ≤ s.params.rxDepth
  txrstEmpty : crTxrst s.cr = true → s.txf = []
  disabledIdle : crEn s.cr = false → s.ls = .idle
  disabledUnblocked : crEn s.cr = false → s.framingBlocked = false
  rxCount : ∀ n, s.ls = .rx n → 1 ≤ n ∧ n ≤ 255
  rxPirqField : s.rxPirq.toNat < 2 ^ rxPirqBits s.params
  running : s.eng.mode = .run →
    s.eng.cmd.kind = .command ∧ s.eng.cmd.wf = true ∧ s.eng.upc ∈ stepLabels s.eng.cmd
  loopIndex : s.eng.mode = .run → s.eng.upc ∈ [Label.w1, .g2, .g3, .s4, .s5] →
    s.eng.i.toNat < transferCount s.eng.cmd
  byteWaiting : s.eng.mode = .run → s.eng.upc ∈ [Label.g3, .s5] → s.rxf ≠ []
  dataWf : Memory.wf s.res.data
  dataBound : ∀ c ∈ s.res.data, c.1 < 255
  faultsNodup : s.faults.Nodup
  refusedNodup : s.refused.Nodup
  slavesWf : SlavesWf s

/-- The labels at which the controller is still as the prologue left it: nothing queued, nothing
received, no transfer open. -/
def cleanLabels : List Label :=
  [.p1, .p2, .p3, .p4, .p5, .p6, .p7, .p8, .p9, .p10, .p11, .p12, .p13, .p14, .w0, .g0, .s0]

/-- The labels from enabling the device to the write that disables it. -/
def enabledLabels : List Label :=
  [.p10, .p11, .p12, .p13, .p14, .w0, .w1, .w2, .w3, .w4, .w5, .g0, .g1, .g2, .g3, .g4, .g5, .g6,
    .s0, .s1, .s2, .s3, .s4, .s5, .s6, .s7, .s8]

/-- How many entries a transaction has queued at most when its engine stands at an enqueue label. -/
def queuedAtMost (label : Label) (i : Byte) : Option Nat :=
  match label with
  | .w0 | .g0 | .s0 => some 0
  | .w1 => some (i.toNat + 1)
  | .g1 | .s1 => some 1
  | .s2 => some 2
  | .s3 => some 3
  | _ => none

/-- What the engine can rely on while a transaction (or INIT) runs, under every interleaving
(44_transaction_engine.md R179 to R181, 70_reset_and_hazards.md R292, R302): the controller is as the
prologue set it, label by label. -/
structure TransactionFacts (s : State) : Prop where
  clean : s.eng.mode = .run → s.eng.upc ∈ cleanLabels →
    s.txf = [] ∧ s.rxf = [] ∧ s.ls = .idle ∧ s.framingBlocked = false
  crZero : s.eng.mode = .run →
    s.eng.upc ∈ [Label.p1, .p2, .p3, .p6, .p7, .p8, .p9] → s.cr = 0x00000000#32
  crHeld : s.eng.mode = .run → s.eng.upc ∈ [Label.p4, .p5] → s.cr = 0x00000002#32
  crEnabled : s.eng.mode = .run → s.eng.upc ∈ enabledLabels → s.cr = 0x00000001#32
  tmpZero : s.eng.mode = .run → s.eng.upc ∈ [Label.p3, .p9] → s.eng.tmp = 0x00000000#32
  tmpHeld : s.eng.mode = .run → s.eng.upc = .p5 → s.eng.tmp = 0x00000002#32
  tmpEnabled : s.eng.mode = .run → s.eng.upc ∈ [Label.p11, .p13, .w5, .g6, .s8] →
    s.eng.tmp = 0x00000001#32
  isrClear : s.eng.mode = .run →
    s.eng.upc ∈ [Label.p8, .p9, .p10, .p11, .p12, .p13, .p14, .w0, .g0, .s0] → s.isr = 0x00#8
  threshold : s.eng.mode = .run → s.eng.upc ∈ cleanLabels → s.eng.upc ≠ .p1 →
    s.rxPirq = rxPirqField s.params s.params.rxPirqInit
  queued : s.eng.mode = .run → ∀ n, queuedAtMost s.eng.upc s.eng.i = some n → s.txf.length ≤ n

end Sys2Proof.Machine
end

