-- ==== Sys2Proof/Certificates/Slice0/Obligations.lean ====
section
/-! DEFINITION. The statements for the provers: the numbered rules of spec/ about what an operation or
the machine does. A statement about a step of an engine operation is about the state in which the
engine stands at the step's label (`AtStep`); `afterAsk s` is `s` after the register access primitive
has been asked whether the access fails, which uses up one choice of the environment and nothing
else. -/

open Sys2Proof Sys2Proof.Machine

/-! ### Words the statements share -/

/-- The fault set with one fault in it. -/
def Sys2Proof.Machine.withFault (f : Fault) (fs : List Fault) : List Fault :=
  if f ∈ fs then fs else fs ++ [f]

/-- What a transfer left open adds to the trace when it is abandoned (45_bus_side.md R223). -/
def Sys2Proof.Machine.abortOf (ls : LineState) : List BusEvent :=
  if ls = .idle ∨ ls = .halted then [] else [.abort]

/-- The entry of an address byte: start flag, no stop flag (30_encoding.md R101). -/
def Sys2Proof.Machine.startEntry (address : Address) (read : Bool) : Entry :=
  (1#2 ++ (address ++ BitVec.ofBool read) : BitVec (2 + (7 + 1)))

/-- The address byte as it goes over the wires (30_encoding.md R94). -/
def Sys2Proof.Machine.wireAddress (address : Address) (read : Bool) : Byte :=
  (address ++ BitVec.ofBool read : BitVec (7 + 1))

/-- The data entries of a write: the stop flag on the last only (44_transaction_engine.md R183). -/
def Sys2Proof.Machine.dataEntries : List Byte → List Entry
  | [] => []
  | [b] => [(2#2 ++ b : BitVec (2 + 8))]
  | b :: c :: rest => (0#2 ++ b : BitVec (2 + 8)) :: dataEntries (c :: rest)

/-- The trace of received bytes: all but the last are acknowledged (45_bus_side.md R220). -/
def Sys2Proof.Machine.receivedEvents : List Byte → List BusEvent
  | [] => []
  | [b] => [.rxb b false]
  | b :: c :: rest => .rxb b true :: receivedEvents (c :: rest)

/-- ISR after a pop that leaves `rest` in the transmit FIFO (45_bus_side.md R224). -/
def Sys2Proof.Machine.isrAfterPop (s : State) (rest : List Entry) : Byte :=
  s.isr ||| (if rest = [] then 0x04#8 else 0#8)
    ||| (if rest.length = s.params.txDepth / 2 then 0x80#8 else 0#8)

/-- `s` after a write of entry `e` to the transmit FIFO: discarded while TXRST, the fault TxOverflow
on a full FIFO, else pushed (40_register_access.md R126). -/
def Sys2Proof.Machine.pushEntry (e : Entry) (s : State) : State :=
  { s with
    txf := if s.cr.getLsbD 1 = true ∨ s.txf.length = s.params.txDepth then s.txf
      else s.txf ++ [e]
    faults := if s.cr.getLsbD 1 = false ∧ s.txf.length = s.params.txDepth then
      withFault (.txOverflow e) s.faults else s.faults }

/-- `s` after a write of `w` to the control register (40_register_access.md R122, 45_bus_side.md R223):
the word stored, the transmit FIFO flushed by bit 1, and, where bit 0 goes from 1 to 0, a transfer left
open abandoned, which the slaves see. -/
def Sys2Proof.Machine.controlWritten (w : Word) (s : State) : State :=
  let abandons := s.cr.getLsbD 0 = true ∧ w.getLsbD 0 = false
  { s with
    cr := w
    txf := if w.getLsbD 1 then [] else s.txf
    ls := if abandons then .idle else s.ls
    framingBlocked := if abandons then false else s.framingBlocked
    trace := if abandons then s.trace ++ abortOf s.ls else s.trace
    env := if abandons ∧ abortOf s.ls ≠ [] then observe .abort s.env else s.env }

/-- `s` after a failed access of the engine's step (60_exceptions.md R257); that the fault set records it
as `res.err` does is the model's reading (log entry 22). -/
def Sys2Proof.Machine.failedAt (s : State) : State :=
  { afterAsk s with
    eng := { s.eng with mode := .faulted }
    res := { s.res with
      err := some (.accessFault s.eng.upc (accessOf s.eng.upc).1 (accessOf s.eng.upc).2) }
    faults := withFault
      (.accessFault s.eng.upc (accessOf s.eng.upc).1 (accessOf s.eng.upc).2) s.faults }

/-- The engine stands at `label` of the operation `i` and its next access fails. -/
abbrev Sys2Proof.Machine.FailsAt (i : Instr) (label : Label) (s : State) : Prop :=
  s.eng.mode = .run ∧ s.eng.cmd = i ∧ s.eng.upc = label ∧ (askFail s).1 = true

/-- The eight toggles with their bit and value (42_control_toggles.md R161 to R168). -/
def Sys2Proof.Machine.toggles : List (Instr × Nat × Bool) :=
  [(.enableDevice, 0, true), (.disableDevice, 0, false), (.startTransfer, 2, true),
    (.endTransfer, 2, false), (.enableGeneralCall, 6, true), (.disableGeneralCall, 6, false),
    (.resetTxFifo, 1, true), (.clearTxFifoReset, 1, false)]

/-- Where the engine goes when the prologue's poll ends (44_transaction_engine.md R179). -/
def Sys2Proof.Machine.afterPrologue : Instr → Label
  | .writeReg _ _ _ => .w0
  | .readReg _ _ => .g0
  | .readRegSel _ _ _ => .s0
  | _ => .p14

/-- A run of one operation can start here and meets no disturbance: the engine Idle, nothing refused,
no failing access, one master, a free bus, and this operation the host's next action. -/
abbrev Sys2Proof.Machine.Launch (i : Instr) (s : State) : Prop :=
  s.eng.mode = .idle ∧ s.refused = [] ∧ s.params.accessCanFail = false ∧
    s.params.multiMaster = false ∧ s.env.extBusy = false ∧
    ∃ p rest, encode i = some p ∧ s.inputs = .present p :: rest

/-! ### Reset -/

/-- 10_state.md section 7 (power-on column): what the spec gives the machine after reset; sections 4 and
6: trace, faults and refusals are empty at first. That RD.SR yields 0x000000C0 and not 0x000000C4 rests
on `ext_busy` being 0 at State.reset, which the spec leaves to the launch (section 2.2; the model's
choice, log entry 7). -/
def Obligations.ResetLeavesControllerAsSpecified : Prop :=
  State.reset.cr = 0x00000000#32 ∧ State.reset.isr = State.reset.params.isrReset ∧
  State.reset.rxPirq = 0#32 ∧ State.reset.gpo = State.reset.params.gpoResetValue ∧
  State.reset.txf = [] ∧ State.reset.rxf = [] ∧ State.reset.ls = .idle ∧
  State.reset.eng.mode = .idle ∧ State.reset.trace = [] ∧ State.reset.faults = [] ∧
  State.reset.refused = [] ∧
  exec .rdSr State.reset = .next { State.reset with ret := .word 0x000000C0#32 }

/-- 70_reset_and_hazards.md section 1: `rst`, in any mode of the engine. The values of the engine's
and the result registers afterwards are the model's choice (log entries 5 and 6) and are not stated. -/
def Obligations.PowerOnResetActsInAnyMode : Prop :=
  ∀ (s : State) (ts : List Agent) (ins : List HostAction),
    stopReason s = none → s.turns = .host :: ts → s.inputs = .rst :: ins →
    ∃ t, step s = .next t ∧
      t.cr = 0x00000000#32 ∧ t.isr = s.params.isrReset ∧ t.rxPirq = 0#32 ∧
      t.gpo = s.params.gpoResetValue ∧ t.txf = [] ∧ t.rxf = [] ∧ t.ls = .idle ∧
      t.framingBlocked = false ∧ t.eng.mode = .idle ∧ t.trace = s.trace ++ abortOf s.ls ∧
      t.faults = s.faults ∧ t.refused = s.refused ∧ t.env.extBusy = s.env.extBusy ∧
      t.params = s.params ∧ t.turns = ts ∧ t.inputs = ins

/-! ### Encoding -/

/-- 95_test_vectors.md V30, 30_encoding.md sections 1 and 3: words written out from the encodings. -/
def Obligations.TableWordsDecodeAsWritten : Prop :=
  decode (.regop 0x1108#16 0x000001D0#32) = .ok (.wrTxFifo 0x000001D0#32) ∧
  decode (.regop 0x0104#16 0#32) = .ok .rdSr ∧
  decode (.regop 0x1104#16 0#32) = .error .reservedAccess ∧
  decode (.cmd 0x31060068#32 [0x00#8, 0x54#8, 0xE4#8, 0x12#8, 0x15#8, 0x92#8]) =
    .ok (.writeReg 0x68#7 6#8 [0x00#8, 0x54#8, 0xE4#8, 0x12#8, 0x15#8, 0x92#8]) ∧
  decode (.cmd 0x32010074#32 []) = .ok (.readReg 0x74#7 1#8) ∧
  decode (.cmd 0x33012068#32 []) = .ok (.readRegSel 0x68#7 0x20#8 1#8) ∧
  decode (.cmd 0x2003FF00#32 []) = .ok (.enqueueWord 0xFF#8 true true) ∧
  decode (.cmd 0x16000000#32 []) = .ok .resetTxFifo ∧
  decode (.cmd 0x20040000#32 []) = .error .badCommand ∧
  decode (.cmd 0x32000074#32 []) = .error .badCommand

/-- 30_encoding.md sections 1 and 3: decoding what a well-formed instruction encodes to gives it back,
with every operand at every value. -/
def Obligations.DecodeAfterEncodeIsIdentity : Prop :=
  ∀ i : Instr, i.wf = true → i.kind ≠ .pureFn →
    ∃ p, encode i = some p ∧ decode p = .ok i

/-- 30_encoding.md sections 1 and 4: what decodes is well formed, and no bit but the data word of a
read is ignored. -/
def Obligations.EncodeAfterDecodeIsIdentity : Prop :=
  (∀ (word : Word) (payload : List Byte) (i : Instr),
    decode (.cmd word payload) = .ok i →
      i.wf = true ∧ i.kind = .command ∧ encode i = some (.cmd word payload)) ∧
  (∀ (pattern : BitVec 16) (data : Word) (i : Instr),
    decode (.regop pattern data) = .ok i →
      i.kind = .port ∧ (encode i = some (.regop pattern data) ∨
        (pattern.getLsbD 12 = false ∧ encode i = some (.regop pattern 0#32))))

/-- 30_encoding.md section 3, section 4: every other pattern is refused. The spec's pattern has 13 bits;
that it is presented in 16 and that a non-zero bit 15, 14 or 13 is refused is the model's choice (log
entry 15). -/
def Obligations.ReservedPatternsAreRefused : Prop :=
  ∀ (pattern : BitVec 16) (data : Word),
    pattern ∉ [0x0020#16, 0x1020#16, 0x1040#16, 0x0100#16, 0x1100#16, 0x0104#16, 0x1108#16,
      0x010C#16, 0x0120#16, 0x1120#16, 0x0124#16, 0x1124#16] →
    decode (.regop pattern data) = .error .reservedAccess

/-! ### The step -/

/-- A host turn with the engine Idle runs the instruction presented (44_transaction_engine.md R178). -/
def Obligations.StepRunsPresentedInstruction : Prop :=
  ∀ (s : State) (p : Presented) (i : Instr) (ts : List Agent) (ins : List HostAction),
    stopReason s = none → s.turns = .host :: ts → s.inputs = .present p :: ins →
    s.eng.mode = .idle → decode p = .ok i →
    step s = exec i { s with turns := ts, inputs := ins }

/-- An engine turn runs one step of the latched command; an engine that does not run has none
(44_transaction_engine.md R176). A pure function called by the host runs in any mode. -/
def Obligations.StepRunsLatchedCommand : Prop :=
  ∀ (s : State) (ts : List Agent), stopReason s = none →
    (s.turns = .engine :: ts →
      (s.eng.mode = .run → step s = exec s.eng.cmd { s with turns := ts }) ∧
      (s.eng.mode ≠ .run → step s = .next { s with turns := ts })) ∧
    (∀ (f : FnCall) (ins : List HostAction), s.turns = .host :: ts → s.inputs = .call f :: ins →
      step s = exec f.toInstr { s with turns := ts, inputs := ins })

/-- A table word placed for the next step is run by it (the model's interface, log entry 17). -/
def Obligations.FetchedWordRunsNext : Prop :=
  ∀ (s : State) (nbits w : Nat) (i : Instr), decodeTableWord nbits w = some i →
    step (s.withFetchWord nbits w) =
      exec i { s with refused := [], eng := { s.eng with mode := .idle } }

/-- 45_bus_side.md section 6: who moves when no turn is queued, eager-bus and lazy-bus. -/
def Obligations.NamedSchedulesChooseTheMover : Prop :=
  ∀ s : State, stopReason s = none → s.turns = [] →
    Refusal.staticModeNotSpecified ∉ s.refused → (s.cr.getLsbD 0 && s.cr.getLsbD 2) = false →
    (s.policy = .eager →
      (¬ Quiescent s → step s = busStep s) ∧
      (Quiescent s → s.eng.mode = .run → step s = exec s.eng.cmd s) ∧
      (Quiescent s → s.eng.mode ≠ .run → step s = hostStep s)) ∧
    (s.policy = .lazy →
      (s.eng.mode = .run → pollExit s.eng.upc (statusNow s) = some false → ¬ Quiescent s →
        step s = busStep s) ∧
      (s.eng.mode = .run → (pollExit s.eng.upc (statusNow s) ≠ some false ∨ Quiescent s) →
        step s = exec s.eng.cmd s) ∧
      (s.eng.mode ≠ .run → step s = hostStep s))

/-- 20_memory.md R65 and section 1: an access at the primitive reaches the register at its offset, and
one of another width, misaligned, or outside the window is refused. -/
def Obligations.RawAccessReachesItsRegister : Prop :=
  ∀ (s : State) (write : Bool) (address bytes : Nat) (data : Word), s.eng.mode = .idle →
    s.params.i2cBase % 4 = 0 →
    (∀ off : BitVec 12, bytes = 4 → address = s.params.i2cBase + off.toNat →
      hostAction (.access write address bytes data) s =
        hostAction (.present (.regop (regopPattern write off) data)) s) ∧
    (bytes ≠ 4 ∨ address % 4 ≠ 0 ∨ address < s.params.i2cBase ∨
        s.params.i2cBase + 0x124 < address →
      hostAction (.access write address bytes data) s = .next (markRefused .reservedAccess s))

/-- 40_register_access.md R133, 60_exceptions.md R259: a request that does not decode changes nothing
but the refusal mark, to which its reason is added, and after the mark the machine says nothing more
(the stop is log entry 9). -/
def Obligations.RefusedRequestOnlySetsTheMark : Prop :=
  ∀ (s : State) (p : Presented) (e : DecodeError) (ts : List Agent) (ins : List HostAction),
    stopReason s = none → s.turns = .host :: ts → s.inputs = .present p :: ins →
    s.eng.mode = .idle → decode p = .error e →
    step s = .next { s with
      turns := ts, inputs := ins, refused := s.refused ++ [refusalOf e] } ∧
    step { s with turns := ts, inputs := ins, refused := s.refused ++ [refusalOf e] } =
      .refused (refusalOf e)

/-- 44_transaction_engine.md R195, R178: while the engine runs, a host command or raw access is refused
(Concurrent) and changes nothing else, whatever is presented. That the same holds of a Faulted engine
is the model's reading (log entry 11); that a request which would not decode either records this reason
only is the model's choice (log entry 36). -/
def Obligations.SecondCallPathIsRefused : Prop :=
  ∀ (s : State) (a : HostAction) (ts : List Agent) (ins : List HostAction),
    stopReason s = none → s.turns = .host :: ts → s.inputs = a :: ins → s.eng.mode ≠ .idle →
    ((∃ p, a = .present p) ∨ ∃ write address bytes data, a = .access write address bytes data) →
    step s = .next { s with
      turns := ts, inputs := ins, refused := s.refused ++ [.concurrent] }

/-! ### Register-port operations -/

/-- 40_register_access.md R121, R124, R130, R132: the word read, and nothing else changes. -/
def Obligations.RegisterReadsYieldTheirRegister : Prop :=
  (decode (.regop 0x0100#16 0#32) = .ok .rdCr ∧ decode (.regop 0x0020#16 0#32) = .ok .rdIsr ∧
    decode (.regop 0x0120#16 0#32) = .ok .rdRxPirq ∧
    decode (.regop 0x0124#16 0#32) = .ok .rdGpo) ∧
  ∀ s : State, s.eng.mode = .idle → (askFail s).1 = false →
    exec .rdCr s = .next { afterAsk s with ret := .word s.cr } ∧
    exec .rdIsr s = .next { afterAsk s with ret := .word (s.isr.setWidth 32) } ∧
    exec .rdRxPirq s = .next { afterAsk s with ret := .word s.rxPirq } ∧
    exec .rdGpo s = .next { afterAsk s with ret := .word s.gpo }

/-- 40_register_access.md R123, 10_state.md R24, R33: every bit of the status word. -/
def Obligations.StatusReadShowsTheFlags : Prop :=
  decode (.regop 0x0104#16 0#32) = .ok .rdSr ∧
  ∀ s : State, s.eng.mode = .idle → (askFail s).1 = false →
    ∃ w : Word, exec .rdSr s = .next { afterAsk s with ret := .word w } ∧
      w.getLsbD 7 = decide (s.txf = []) ∧ w.getLsbD 6 = decide (s.rxf = []) ∧
      w.getLsbD 5 = decide (s.txf.length = s.params.txDepth) ∧
      w.getLsbD 4 = decide (s.rxf.length = s.params.rxDepth) ∧
      w.getLsbD 3 = false ∧
      w.getLsbD 2 = (decide (s.ls ≠ .idle ∧ s.ls ≠ .halted) || s.env.extBusy) ∧
      w.getLsbD 1 = false ∧ w.getLsbD 0 = false ∧ ∀ k, 8 ≤ k → w.getLsbD k = false

/-- 40_register_access.md R122, 45_bus_side.md R223: store, flush, abandon, and the frame: nothing else
of the machine changes. -/
def Obligations.ControlWriteStoresFlushesAbandons : Prop :=
  (∀ w, decode (.regop 0x1100#16 w) = .ok (.wrCr w)) ∧
  ∀ (s : State) (w : Word), s.eng.mode = .idle → (askFail s).1 = false →
    exec (.wrCr w) s = .next { controlWritten w (afterAsk s) with ret := .done }

/-- 40_register_access.md R125, R128, R131: the register written, and nothing else changes. -/
def Obligations.PlainWritesReplaceTheirRegister : Prop :=
  (∀ w, decode (.regop 0x1020#16 w) = .ok (.wrIsr w) ∧
    decode (.regop 0x1120#16 w) = .ok (.wrRxPirq w) ∧
    decode (.regop 0x1124#16 w) = .ok (.wrGpo w)) ∧
  ∀ (s : State) (w : Word), s.eng.mode = .idle → (askFail s).1 = false →
    exec (.wrIsr w) s = .next { afterAsk s with isr := w.extractLsb' 0 8, ret := .done } ∧
    exec (.wrGpo w) s = .next { afterAsk s with gpo := w, ret := .done } ∧
    ∃ v : Word, exec (.wrRxPirq w) s = .next { afterAsk s with rxPirq := v, ret := .done } ∧
      ∀ k, v.getLsbD k = (decide (k < rxPirqBits s.params) && w.getLsbD k)

/-- 40_register_access.md R126: discarded while TXRST, TxOverflow on a full FIFO, else pushed. -/
def Obligations.TransmitWritePushesOneEntry : Prop :=
  (∀ w, decode (.regop 0x1108#16 w) = .ok (.wrTxFifo w)) ∧
  ∀ (s : State) (w : Word), s.eng.mode = .idle → (askFail s).1 = false →
    (s.cr.getLsbD 1 = true →
      exec (.wrTxFifo w) s = .next { afterAsk s with ret := .done }) ∧
    (s.cr.getLsbD 1 = false → s.txf.length = s.params.txDepth →
      exec (.wrTxFifo w) s = .next { afterAsk s with
        faults := withFault (.txOverflow (w.extractLsb' 0 10)) s.faults, ret := .done }) ∧
    (s.cr.getLsbD 1 = false → s.txf.length ≠ s.params.txDepth →
      exec (.wrTxFifo w) s = .next { afterAsk s with
        txf := s.txf ++ [w.extractLsb' 0 10], ret := .done })

/-- 40_register_access.md R127: the oldest byte in bits 7:0, the rest unspecified; on an empty FIFO
the fault RxUnderflow and any word. -/
def Obligations.ReceiveReadPopsOneByte : Prop :=
  decode (.regop 0x010C#16 0#32) = .ok .rdRxFifo ∧
  ∀ s : State, s.eng.mode = .idle → (askFail s).1 = false →
    (∀ b rest, s.rxf = b :: rest → ∃ r : Word, r.extractLsb' 0 8 = b ∧
      exec .rdRxFifo s = .next { afterAsk s with
        rxf := rest, draws := (afterAsk s).draws + 1, ret := .word r }) ∧
    (s.rxf = [] → ∃ r : Word,
      exec .rdRxFifo s = .next { afterAsk s with
        faults := withFault .rxUnderflow s.faults, draws := (afterAsk s).draws + 1,
        ret := .word r })

/-- 40_register_access.md section 7: with the key the soft reset, with any other word a refusal. The
value GPO takes under SOFTR_CLEARS_GPO is the model's reading (log entry 27); without it GPO stays. -/
def Obligations.SoftResetNeedsItsKey : Prop :=
  (∀ w, decode (.regop 0x1040#16 w) = .ok (.wrSoftr w)) ∧
  ∀ (s : State) (w : Word), s.eng.mode = .idle → (askFail s).1 = false →
    (w = 0x0000000A#32 → ∃ t, exec (.wrSoftr w) s = .next t ∧
      t.cr = 0x00000000#32 ∧ t.isr = s.params.isrReset ∧ t.rxPirq = 0#32 ∧ t.txf = [] ∧
      t.rxf = [] ∧ t.ls = .idle ∧ t.framingBlocked = false ∧
      t.trace = s.trace ++ abortOf s.ls ∧
      t.gpo = (if s.params.softrClearsGpo then s.params.gpoResetValue else s.gpo) ∧
      t.env = (if abortOf s.ls = [] then (afterAsk s).env else observe .abort (afterAsk s).env) ∧
      t.eng = s.eng ∧ t.res = s.res ∧ t.faults = s.faults ∧
      t.refused = s.refused ∧ t.params = s.params) ∧
    (w ≠ 0x0000000A#32 → ∃ rs, exec (.wrSoftr w) s =
        .next { afterAsk s with refused := rs, ret := .done } ∧
      ∀ r, r ∈ rs ↔ r ∈ s.refused ∨ r = .badResetKey)

/-- 60_exceptions.md section 1: a raw access that the primitive fails has no effect on the controller.
That the engine and `res.err` are left alone is the model's reading (log entry 12). -/
def Obligations.FailedHostAccessHasNoEffect : Prop :=
  ∀ (s : State) (i : Instr), i.kind = .port → s.eng.mode = .idle → (askFail s).1 = true →
    exec i s = .next { afterAsk s with ret := .accessFailed }

/-! ### Bit codec and decoders -/

/-- 41_bit_codec_decoders.md R150, R151: one bit read, one bit replaced, in every mode of the engine;
and the law of the source's section 8 as R151 reads it. -/
def Obligations.BitCodecReadsAndReplacesOneBit : Prop :=
  ∀ (s : State) (w : Word) (o : BitVec 5) (v : Bool),
    exec (.getBit w o) s = .next { s with ret := .flag (w.getLsbD o.toNat) } ∧
    (∃ w' : Word, exec (.setBit w o v) s = .next { s with ret := .word w' } ∧
      ∀ k, k < 32 → w'.getLsbD k = if k = o.toNat then v else w.getLsbD k) ∧
    (setBit (setBit w o true) o false = w ↔ w.getLsbD o.toNat = false)

/-- 41_bit_codec_decoders.md R152, R153, R157: every flag at its bit, and the inverses. -/
def Obligations.DecodersReadTheirBits : Prop :=
  ∀ (s : State) (r : Word),
    exec (.decodeStatus r) s = .next { s with ret := (.status
      (StatusWord.mk (r.getLsbD 7) (r.getLsbD 6) (r.getLsbD 5) (r.getLsbD 4) (r.getLsbD 3)
        (r.getLsbD 2) (r.getLsbD 1) (r.getLsbD 0))) } ∧
    exec (.decodeISR r) s = .next { s with ret := (.isrFlags
      (InterruptStatusWord.mk (r.getLsbD 7) (r.getLsbD 6) (r.getLsbD 5) (r.getLsbD 4) (r.getLsbD 3)
        (r.getLsbD 2) (r.getLsbD 1) (r.getLsbD 0))) } ∧
    encodeStatus (decodeStatus r) = r &&& 0x000000FF#32 ∧
    (∀ st : StatusWord, decodeStatus (encodeStatus st) = st) ∧
    encodeISR (decodeISR r) = r &&& 0x000000FF#32 ∧
    (∀ isr : InterruptStatusWord, decodeISR (encodeISR isr) = isr)

/-! ### Commands -/

/-- 44_transaction_engine.md section 1, 30_encoding.md sections 2 and 3: a well-formed command is latched
whole and the engine set running at its first label; an operand out of range is refused. That the
engine's other working registers keep their values is the model's choice (log entry 35), and that a
Faulted engine refuses is its reading (log entry 11). -/
def Obligations.CommandsAreAdmittedWhole : Prop :=
  ∀ (s : State) (i : Instr), i.kind = .command →
    (s.eng.mode = .idle → i.wf = true →
      exec i s = .next { s with
        eng := { s.eng with cmd := i, upc := firstLabel i, mode := .run }, ret := .done } ∧
      (stepLabels i).head? = some (firstLabel i)) ∧
    (s.eng.mode = .idle → i.wf = false → exec i s = .next (markRefused .badCommand s)) ∧
    (s.eng.mode = .faulted ∨ (s.eng.mode = .run ∧ s.eng.cmd ≠ i) →
      exec i s = .next (markRefused .concurrent s))

/-- 41_bit_codec_decoders.md section 3: the step tables of the three register-reading operations, and
what a failed access leaves; that the fault set records it too is the model's reading (log entry 22). -/
def Obligations.FlagCommandsStep : Prop :=
  (decode (.cmd 0x01000000#32 []) = .ok .readStatus ∧
    decode (.cmd 0x02000000#32 []) = .ok .readInterruptStatus ∧
    decode (.cmd 0x03000000#32 []) = .ok .resetInterruptStatus) ∧
  ∀ s : State,
    (∀ i l, (i, l) ∈ [(Instr.readStatus, Label.rs0), (.readInterruptStatus, .ri0),
        (.resetInterruptStatus, .ci0), (.resetInterruptStatus, .ci1)] →
      FailsAt i l s → exec i s = .next (failedAt s)) ∧
    (AtStep .readStatus .rs0 s → exec .readStatus s = .next { afterAsk s with
      eng := { s.eng with mode := .idle, st := (srWord s).extractLsb' 0 8 }
      res := { s.res with status := (srWord s).extractLsb' 0 8 } }) ∧
    (AtStep .readInterruptStatus .ri0 s → exec .readInterruptStatus s = .next { afterAsk s with
      eng := { s.eng with mode := .idle, isr := s.isr }
      res := { s.res with isr := s.isr } }) ∧
    (AtStep .resetInterruptStatus .ci0 s → exec .resetInterruptStatus s = .next { afterAsk s with
      eng := { s.eng with tmp := s.isr.setWidth 32, upc := .ci1 } }) ∧
    (AtStep .resetInterruptStatus .ci1 s → exec .resetInterruptStatus s = .next { afterAsk s with
      isr := 0x00#8, eng := { s.eng with mode := .idle } })

/-- 42_control_toggles.md: the command words, the read of T0, the write of T1, and what a failed access
of either leaves; that the fault set records it too is the model's reading (log entry 22). -/
def Obligations.ToggleStepsReadThenWrite : Prop :=
  (∀ (op : Byte) (i : Instr), (op, i) ∈ [(0x10#8, Instr.enableDevice), (0x11#8, .disableDevice),
      (0x12#8, .startTransfer), (0x13#8, .endTransfer), (0x14#8, .enableGeneralCall),
      (0x15#8, .disableGeneralCall), (0x16#8, .resetTxFifo), (0x17#8, .clearTxFifoReset)] →
    decode (.cmd (op ++ 0#24 : BitVec (8 + 24)) []) = .ok i) ∧
  ∀ (s : State) (i : Instr) (b : Nat) (v : Bool), (i, b, v) ∈ toggles →
    (AtStep i .t0 s → exec i s = .next { afterAsk s with
      eng := { s.eng with tmp := s.cr, upc := .t1 } }) ∧
    (AtStep i .t1 s → exec i s =
      .next (finish (writeCr (setBit s.eng.tmp (BitVec.ofNat 5 b) v) (afterAsk s)))) ∧
    (FailsAt i .t0 s ∨ FailsAt i .t1 s → exec i s = .next (failedAt s))

/-- 42_control_toggles.md: a whole toggle, no other agent between, changes one bit of CR and what follows
from it, and nothing else but the engine's latched command, micro-PC and `eng.tmp`; that the working
registers no step of it writes keep their values is the model's choice (log entry 35). -/
def Obligations.TogglesChangeOneBit : Prop :=
  ∀ (s : State) (i : Instr) (b : Nat) (v : Bool), (i, b, v) ∈ toggles →
    s.eng.mode = .idle → s.params.accessCanFail = false →
    ∃ w : Word, (∀ k, k < 32 → w.getLsbD k = if k = b then v else s.cr.getLsbD k) ∧
      execTimes 3 i s = .next { controlWritten w s with
        ret := .done
        eng := { s.eng with cmd := i, upc := .t1, mode := .idle, tmp := s.cr } }

/-- 43_fifo_primitives.md: the command word, the frame built, the three cases of the write, and what a
failed access leaves; that the fault set records it too is the model's reading (log entry 22). -/
def Obligations.EnqueueWordQueuesItsEntry : Prop :=
  ∀ (s : State) (byte : Byte) (isStart isStop : Bool),
    decode (.cmd (0x20#8 ++ (0#6 ++ (BitVec.ofBool isStop ++ (BitVec.ofBool isStart ++
      (byte ++ 0#8)))) : BitVec (8 + (6 + (1 + (1 + (8 + 8)))))) []) =
      .ok (.enqueueWord byte isStart isStop) ∧
    ∃ e : Entry, e.extractLsb' 0 8 = byte ∧ e.getLsbD 8 = isStart ∧ e.getLsbD 9 = isStop ∧
      (AtStep (.enqueueWord byte isStart isStop) .eq0 s →
        exec (.enqueueWord byte isStart isStop) s =
          .next { pushEntry e (afterAsk s) with eng := { s.eng with mode := .idle } }) ∧
      (FailsAt (.enqueueWord byte isStart isStop) .eq0 s →
        exec (.enqueueWord byte isStart isStop) s = .next (failedAt s))

/-- 43_fifo_primitives.md: the low byte into `res.data[0]`, every other byte of `res.data` as before; on
an empty FIFO any byte; and what a failed access leaves: that the fault set records it too is the
model's reading (log entry 22). -/
def Obligations.DequeueWordTakesOneByte : Prop :=
  decode (.cmd 0x21000000#32 []) = .ok .dequeueWord ∧
  ∀ s : State,
    (FailsAt .dequeueWord .dq0 s → exec .dequeueWord s = .next (failedAt s)) ∧
    (AtStep .dequeueWord .dq0 s → Memory.wf s.res.data → ∃ (r : Word) (data : Memory),
      (∀ k, memRead data k = if k = 0 then r.extractLsb' 0 8 else memRead s.res.data k) ∧
      (∀ b rest, s.rxf = b :: rest → r.extractLsb' 0 8 = b ∧
        exec .dequeueWord s = .next { afterAsk s with
          rxf := rest, draws := (afterAsk s).draws + 1
          eng := { s.eng with mode := .idle, tmp := r }
          res := { s.res with data := data } }) ∧
      (s.rxf = [] →
        exec .dequeueWord s = .next { afterAsk s with
          draws := (afterAsk s).draws + 1, faults := withFault .rxUnderflow s.faults
          eng := { s.eng with mode := .idle, tmp := r }
          res := { s.res with data := data } }))

/-- 60_exceptions.md section 1: a failed access of any engine step of any command has no effect on the
controller, none of the step's register updates happens, and the operation stops; Faulted is left by
the host's acknowledgement or by `rst` and by nothing else; with ACCESS_CAN_FAIL = false no access
fails. That the fault set records the failure as `res.err` does is the model's reading (log entry 22). -/
def Obligations.FailedEngineAccessStopsTheOperation : Prop :=
  (∀ (s : State) (i : Instr) (l : Label), i.kind = .command → l ∈ stepLabels i →
    FailsAt i l s → exec i s = .next (failedAt s)) ∧
  (∀ s : State, s.eng.mode = .faulted → engineStep s = .next s ∧
    hostAction .ackFault s = .next { s with eng := { s.eng with mode := .idle } } ∧
    (∃ t, hostAction .rst s = .next t ∧ t.eng.mode = .idle) ∧
    (∀ a t, a ≠ .ackFault → a ≠ .rst → hostAction a s = .next t → t.eng = s.eng)) ∧
  (∀ s : State, s.params.accessCanFail = false → (askFail s).1 = false ∧ afterAsk s = s)

/-! ### The transaction engine -/

/-- 44_transaction_engine.md R179, R181: the step table of the prologue, for the four operations that
run it. -/
def Obligations.PrologueStepTable : Prop :=
  decode (.cmd 0x30000000#32 []) = .ok .initDevice ∧
  ∀ (s : State) (i : Instr), .p0 ∈ stepLabels i →
    (AtStep i .p0 s → exec i s = .next (goto .p1 (softReset (afterAsk s)))) ∧
    (AtStep i .p1 s → exec i s = .next { afterAsk s with
      rxPirq := rxPirqField s.params s.params.rxPirqInit, eng := { s.eng with upc := .p2 } }) ∧
    (∀ l m, (l, m) ∈ [(Label.p2, Label.p3), (.p4, .p5), (.p8, .p9), (.p10, .p11), (.p12, .p13)] →
      AtStep i l s → exec i s = .next { afterAsk s with
        eng := { s.eng with tmp := s.cr, upc := m } }) ∧
    (∀ l b v m, (l, b, v, m) ∈ [(Label.p3, 1#5, true, Label.p4), (.p5, 1#5, false, .p6),
        (.p9, 0#5, true, .p10), (.p11, 6#5, false, .p12), (.p13, 1#5, false, .p14)] →
      AtStep i l s → exec i s =
        .next (goto m (writeCr (setBit s.eng.tmp b v) (afterAsk s)))) ∧
    (AtStep i .p6 s → exec i s = .next { afterAsk s with
      eng := { s.eng with tmp := s.isr.setWidth 32, upc := .p7 } }) ∧
    (AtStep i .p7 s → exec i s = .next { afterAsk s with
      isr := 0x00#8, eng := { s.eng with upc := .p8 } }) ∧
    (AtStep i .p14 s → s.txf = [] ∧ s.rxf = [] ∧ ownBusy s.ls = false ∧ s.env.extBusy = false →
      exec i s = .next { afterAsk s with eng := { s.eng with
        st := (srWord s).extractLsb' 0 8, upc := afterPrologue i
        mode := if i = .initDevice then .idle else .run } }) ∧
    (AtStep i .p14 s → ¬ (s.txf = [] ∧ s.rxf = [] ∧ ownBusy s.ls = false ∧
        s.env.extBusy = false) →
      exec i s = .next { afterAsk s with eng := { s.eng with
        st := (srWord s).extractLsb' 0 8 } })

/-- 44_transaction_engine.md section 2 (R179's worked example, R180 (4)): from any state with an Idle
engine, the fourteen accesses of the prologue leave the same controller, GPO and the environment
apart; INIT then ends at its first poll where the bus is free, and polls on where it is not. -/
def Obligations.PrologueForgetsWhatItFound : Prop :=
  ∀ (s : State) (i : Instr), .p0 ∈ stepLabels i → i.wf = true → s.eng.mode = .idle →
    s.params.accessCanFail = false → s.params.softrClearsGpo = false →
    0 < s.params.txDepth → 0 < s.params.rxDepth →
    ∃ t, execTimes 15 i s = .next t ∧
      t.cr = 0x00000001#32 ∧ t.isr = 0x00#8 ∧
      t.rxPirq = rxPirqField s.params s.params.rxPirqInit ∧ t.txf = [] ∧ t.rxf = [] ∧
      t.ls = .idle ∧ t.framingBlocked = false ∧ t.gpo = s.gpo ∧
      t.trace = s.trace ++ abortOf s.ls ∧ t.env.extBusy = s.env.extBusy ∧ t.res = s.res ∧
      t.faults = s.faults ∧ t.refused = s.refused ∧ t.eng.mode = .run ∧ t.eng.upc = .p14 ∧
      t.eng.cmd = i ∧
      (i = .initDevice → s.env.extBusy = false → execTimes 16 i s = .next { t with
        eng := { t.eng with st := 0xC0#8, mode := .idle } }) ∧
      (s.env.extBusy = true → execTimes 16 i s = .next { t with
        eng := { t.eng with st := 0xC4#8 } })

/-- 44_transaction_engine.md R183: W0 and W1. The status register is not looked at. -/
def Obligations.WriteEnqueueSteps : Prop :=
  ∀ (s : State) (address : Address) (count : Byte) (data : List Byte),
    (AtStep (.writeReg address count data) .w0 s →
      exec (.writeReg address count data) s =
        .next { pushEntry (startEntry address false) (afterAsk s) with
          eng := { s.eng with i := 0#8, upc := .w1 } }) ∧
    (∀ b, AtStep (.writeReg address count data) .w1 s → data[s.eng.i.toNat]? = some b →
      s.eng.i.toNat < count.toNat →
      exec (.writeReg address count data) s =
        .next { pushEntry (if s.eng.i.toNat + 1 = count.toNat then (2#2 ++ b : BitVec (2 + 8))
            else (0#2 ++ b : BitVec (2 + 8))) (afterAsk s) with
          eng := { s.eng with
            i := s.eng.i + 1#8
            upc := if s.eng.i.toNat + 1 < count.toNat then .w1 else .w2 } })

/-- 44_transaction_engine.md R184, R185: the lenient poll and the epilogue of a write. -/
def Obligations.WriteEpilogueSteps : Prop :=
  ∀ (s : State) (address : Address) (count : Byte) (data : List Byte),
    (AtStep (.writeReg address count data) .w2 s →
      exec (.writeReg address count data) s = .next { afterAsk s with eng := { s.eng with
        st := (srWord s).extractLsb' 0 8
        upc := if s.txf ≠ [] ∧ (ownBusy s.ls = true ∨ s.env.extBusy = true) then .w2
          else .w3 } }) ∧
    (AtStep (.writeReg address count data) .w3 s →
      exec (.writeReg address count data) s = .next { afterAsk s with
        eng := { s.eng with isr := s.isr, upc := .w4 } }) ∧
    (AtStep (.writeReg address count data) .w4 s →
      exec (.writeReg address count data) s = .next { afterAsk s with
        eng := { s.eng with tmp := s.cr, upc := .w5 } }) ∧
    (AtStep (.writeReg address count data) .w5 s →
      ∃ t, t = writeCr (setBit s.eng.tmp 0#5 false) (afterAsk s) ∧
        exec (.writeReg address count data) s = .next { t with
          eng := { s.eng with mode := .idle }
          res := { s.res with fail := s.eng.isr.getLsbD 1 } })

/-- 44_transaction_engine.md R187 and the table of R190: what a read enqueues; the combined read
enqueues exactly four entries. -/
def Obligations.ReadEnqueueSteps : Prop :=
  ∀ (s : State) (address : Address) (regindex count : Byte),
    (AtStep (.readReg address count) .g0 s →
      exec (.readReg address count) s =
        .next { pushEntry (startEntry address true) (afterAsk s) with
          eng := { s.eng with upc := .g1 } }) ∧
    (AtStep (.readReg address count) .g1 s →
      exec (.readReg address count) s =
        .next { pushEntry (2#2 ++ count : BitVec (2 + 8)) (afterAsk s) with
          eng := { s.eng with i := 0#8, upc := .g2 } }) ∧
    (AtStep (.readRegSel address regindex count) .s0 s →
      exec (.readRegSel address regindex count) s =
        .next { pushEntry (startEntry address false) (afterAsk s) with
          eng := { s.eng with upc := .s1 } }) ∧
    (AtStep (.readRegSel address regindex count) .s1 s →
      exec (.readRegSel address regindex count) s =
        .next { pushEntry (0#2 ++ regindex : BitVec (2 + 8)) (afterAsk s) with
          eng := { s.eng with upc := .s2 } }) ∧
    (AtStep (.readRegSel address regindex count) .s2 s →
      exec (.readRegSel address regindex count) s =
        .next { pushEntry (startEntry address true) (afterAsk s) with
          eng := { s.eng with upc := .s3 } }) ∧
    (AtStep (.readRegSel address regindex count) .s3 s →
      exec (.readRegSel address regindex count) s =
        .next { pushEntry (2#2 ++ count : BitVec (2 + 8)) (afterAsk s) with
          eng := { s.eng with i := 0#8, upc := .s4 } })

/-- 44_transaction_engine.md R188, R191 (S4, S5): the receive loop of both reads: only `rx_empty` is
tested, and each dequeue stores one byte at the index and leaves every other byte of `res.data`. -/
def Obligations.ReceiveLoopSteps : Prop :=
  ∀ (s : State) (i : Instr) (poll take leave : Label),
    ((∃ address count, i = .readReg address count ∧ (poll, take, leave) = (.g2, .g3, .g4)) ∨
      (∃ address regindex count, i = .readRegSel address regindex count ∧
        (poll, take, leave) = (.s4, .s5, .s6))) →
    (AtStep i poll s → exec i s = .next { afterAsk s with eng := { s.eng with
      st := (srWord s).extractLsb' 0 8, upc := if s.rxf = [] then poll else take } }) ∧
    (AtStep i take s → Memory.wf s.res.data → s.eng.i.toNat < transferCount i →
      ∃ (r : Word) (data : Memory),
        (∀ k, memRead data k =
          if k = s.eng.i.toNat then r.extractLsb' 0 8 else memRead s.res.data k) ∧
        (∀ b rest, s.rxf = b :: rest → r.extractLsb' 0 8 = b) ∧
        exec i s = .next { afterAsk s with
          rxf := s.rxf.tail, draws := (afterAsk s).draws + 1
          faults := if s.rxf = [] then withFault .rxUnderflow s.faults else s.faults
          res := { s.res with data := data }
          eng := { s.eng with
            tmp := r, i := s.eng.i + 1#8
            upc := if s.eng.i.toNat + 1 < transferCount i then poll else leave } })

/-- 44_transaction_engine.md R189, R191 (S6 to S8): the diagnostic read, which writes no failure, and
the disable. -/
def Obligations.ReadEpilogueSteps : Prop :=
  ∀ (s : State) (i : Instr) (diag readCr writeCrL : Label),
    ((∃ address count, i = .readReg address count ∧
        (diag, readCr, writeCrL) = (.g4, .g5, .g6)) ∨
      (∃ address regindex count, i = .readRegSel address regindex count ∧
        (diag, readCr, writeCrL) = (.s6, .s7, .s8))) →
    (AtStep i diag s → exec i s = .next { afterAsk s with
      eng := { s.eng with isr := s.isr, upc := readCr }, res := { s.res with isr := s.isr } }) ∧
    (AtStep i readCr s → exec i s = .next { afterAsk s with
      eng := { s.eng with tmp := s.cr, upc := writeCrL } }) ∧
    (AtStep i writeCrL s → exec i s =
      .next (finish (writeCr (setBit s.eng.tmp 0#5 false) (afterAsk s))))

/-! ### Whole transactions -/

/-- 70_reset_and_hazards.md section 3 (the write-completion poll can end before the transfer begins):
where the bus side does not move, every write that fits the FIFO runs to its end, reports success,
and nothing was sent; its entries stay queued. -/
def Obligations.LazyWriteSucceedsWithNothingSent : Prop :=
  ∀ (s : State) (address : Address) (count : Byte) (data : List Byte),
    (Instr.writeReg address count data).wf = true → s.eng.mode = .idle →
    s.params.accessCanFail = false → s.env.extBusy = false → count.toNat + 1 ≤ s.params.txDepth →
    ∃ t, execTimes (count.toNat + 21) (.writeReg address count data) s = .next t ∧
      t.eng.mode = .idle ∧ t.res = { s.res with fail := false } ∧ t.cr = 0x00000000#32 ∧
      t.ls = .idle ∧ t.isr = 0x00#8 ∧
      t.txf = startEntry address false :: dataEntries data ∧ t.rxf = [] ∧
      t.trace = s.trace ++ abortOf s.ls ∧ t.faults = s.faults ∧ t.refused = s.refused

/-- 44_transaction_engine.md section 3, 70_reset_and_hazards.md section 3: a write whose every byte is
acknowledged, the bus side moving when all is queued, reports success and puts exactly its bytes on
the wires. -/
def Obligations.AcknowledgedWriteDeliversItsBytes : Prop :=
  ∀ (s : State) (address : Address) (count : Byte) (data : List Byte) (more : List Bool)
    (ts : List Agent),
    (Instr.writeReg address count data).wf = true → Launch (.writeReg address count data) s →
    count.toNat + 1 ≤ s.params.txDepth →
    s.env.acks = List.replicate (count.toNat + 1) true ++ more →
    s.turns = .host :: (List.replicate (count.toNat + 16) .engine ++
      (List.replicate (2 * count.toNat + 3) .bus ++ (List.replicate 4 .engine ++ ts))) →
    ∃ t, runSteps (3 * count.toNat + 24) s = .next t ∧
      t.eng.mode = .idle ∧ t.res = { s.res with fail := false } ∧ t.cr = 0x00000000#32 ∧
      t.ls = .idle ∧ t.txf = [] ∧ t.rxf = [] ∧ t.faults = s.faults ∧ t.refused = [] ∧
      t.trace = s.trace ++ abortOf s.ls ++ [.start, .addr (wireAddress address false) true] ++
        data.map (fun b => .txb b true) ++ [.stop] ∧
      t.env.acks = more ∧ t.turns = ts

/-- 44_transaction_engine.md section 3, 45_bus_side.md section 3: a write whose address byte is not
acknowledged reports failure, sends no data byte, and its data entries stay queued. -/
def Obligations.UnacknowledgedWriteFails : Prop :=
  ∀ (s : State) (address : Address) (count : Byte) (data : List Byte) (more : List Bool)
    (ts : List Agent),
    (Instr.writeReg address count data).wf = true → Launch (.writeReg address count data) s →
    count.toNat + 1 ≤ s.params.txDepth → s.env.acks = false :: more →
    s.turns = .host :: (List.replicate (count.toNat + 16) .engine ++
      (List.replicate 3 .bus ++ (List.replicate 4 .engine ++ ts))) →
    ∃ t, runSteps (count.toNat + 24) s = .next t ∧
      t.eng.mode = .idle ∧ t.res = { s.res with fail := true } ∧ t.cr = 0x00000000#32 ∧
      t.ls = .idle ∧ t.txf = dataEntries data ∧ t.faults = s.faults ∧
      t.trace = s.trace ++ abortOf s.ls ++
        [.start, .addr (wireAddress address false) false, .stop]

/-- 44_transaction_engine.md section 4, 45_bus_side.md section 3: a plain read of any count, the bus
side receiving one byte before each poll, delivers exactly the bytes the slave sent, in order. -/
def Obligations.PlainReadDeliversItsBytes : Prop :=
  ∀ (s : State) (address : Address) (count : Byte) (bytes moreBytes : List Byte)
    (moreAcks : List Bool) (ts : List Agent),
    (Instr.readReg address count).wf = true → Launch (.readReg address count) s →
    2 ≤ s.params.txDepth → 1 ≤ s.params.rxDepth → Memory.wf s.res.data →
    bytes.length = count.toNat → s.env.rbytes = bytes ++ moreBytes →
    s.env.acks = true :: moreAcks →
    s.turns = .host :: (List.replicate 17 .engine ++ (List.replicate 3 .bus ++
      ((List.replicate count.toNat [Agent.bus, .engine, .engine]).flatten ++
        (.bus :: (List.replicate 3 .engine ++ ts))))) →
    ∃ t, runSteps (3 * count.toNat + 25) s = .next t ∧
      t.eng.mode = .idle ∧ t.cr = 0x00000000#32 ∧ t.ls = .idle ∧ t.txf = [] ∧ t.rxf = [] ∧
      (∀ k, memRead t.res.data k = (bytes[k]?).getD (memRead s.res.data k)) ∧
      t.res.fail = s.res.fail ∧ t.res.isr = t.isr ∧ t.isr.getLsbD 1 = false ∧
      t.faults = s.faults ∧
      t.trace = s.trace ++ abortOf s.ls ++ [.start, .addr (wireAddress address true) true] ++
        receivedEvents bytes ++ [.stop]

/-- 44_transaction_engine.md section 5: the combined read: register index written, repeated start, and
the bytes the slave sends, in one framed burst. -/
def Obligations.SelectedReadDeliversItsBytes : Prop :=
  ∀ (s : State) (address : Address) (regindex count : Byte) (bytes moreBytes : List Byte)
    (moreAcks : List Bool) (ts : List Agent),
    (Instr.readRegSel address regindex count).wf = true →
    Launch (.readRegSel address regindex count) s →
    4 ≤ s.params.txDepth → 1 ≤ s.params.rxDepth → Memory.wf s.res.data →
    bytes.length = count.toNat → s.env.rbytes = bytes ++ moreBytes →
    s.env.acks = true :: true :: true :: moreAcks →
    s.turns = .host :: (List.replicate 19 .engine ++ (List.replicate 7 .bus ++
      ((List.replicate count.toNat [Agent.bus, .engine, .engine]).flatten ++
        (.bus :: (List.replicate 3 .engine ++ ts))))) →
    ∃ t, runSteps (3 * count.toNat + 31) s = .next t ∧
      t.eng.mode = .idle ∧ t.cr = 0x00000000#32 ∧ t.ls = .idle ∧ t.txf = [] ∧ t.rxf = [] ∧
      (∀ k, memRead t.res.data k = (bytes[k]?).getD (memRead s.res.data k)) ∧
      t.res.fail = s.res.fail ∧ t.res.isr = t.isr ∧ t.isr.getLsbD 1 = false ∧
      t.faults = s.faults ∧
      t.trace = s.trace ++ abortOf s.ls ++ [.start, .addr (wireAddress address false) true,
        .txb regindex true, .rstart, .addr (wireAddress address true) true] ++
        receivedEvents bytes ++ [.stop]

/-- 70_reset_and_hazards.md section 3 (the write-completion poll can end while the last byte is on the
wire): the byte is lost, the transfer abandoned, and success reported. -/
def Obligations.LenientExitLosesTheLastByte : Prop :=
  ∀ (s : State) (address : Address) (b : Byte) (more : List Bool) (ts : List Agent),
    Launch (.writeReg address 1#8 [b]) s → 2 ≤ s.params.txDepth → s.env.acks = true :: more →
    s.turns = .host :: (List.replicate 17 .engine ++
      (List.replicate 3 .bus ++ (List.replicate 4 .engine ++ ts))) →
    ∃ t, runSteps 25 s = .next t ∧
      t.eng.mode = .idle ∧ t.res.fail = false ∧ t.txf = [] ∧
      t.trace = s.trace ++ abortOf s.ls ++
        [.start, .addr (wireAddress address false) true, .abort]

/-- 44_transaction_engine.md R194, 70_reset_and_hazards.md R299, R301: a read whose bus side has halted,
and a prologue on a bus that stays busy, are left by no step of the engine, the bus side or (for the
read) the environment. -/
def Obligations.HungPollsAreNotLeft : Prop :=
  ∀ s t : State, s.eng.mode = .run → s.params.accessCanFail = false → step s = .next t →
    (∀ label, label ∈ [Label.g2, .s4] → s.eng.upc = label → label ∈ stepLabels s.eng.cmd →
      s.ls = .halted → s.rxf = [] → (nextAgent s).1 ≠ .host →
      t.eng.mode = .run ∧ t.eng.upc = label ∧ t.eng.cmd = s.eng.cmd ∧ t.ls = .halted ∧
        t.rxf = [] ∧ t.res = s.res ∧ t.cr = s.cr ∧ t.trace = s.trace) ∧
    (s.eng.upc = .p14 → .p14 ∈ stepLabels s.eng.cmd → s.ls = .idle → s.txf = [] →
      s.env.extBusy = true → (nextAgent s).1 = .engine ∨ (nextAgent s).1 = .bus →
      t.eng.mode = .run ∧ t.eng.upc = .p14 ∧ t.eng.cmd = s.eng.cmd ∧ t.ls = .idle ∧
        t.txf = [] ∧ t.env.extBusy = true ∧ t.cr = s.cr ∧ t.trace = s.trace)

/-! ### The bus side -/

/-- 45_bus_side.md R212, R213, R214, R215, R224: taking an entry from the transmit FIFO, and where the
bus side waits instead: Idle with nothing queued or with a start entry on a bus held by others, and,
holding the bus, TxWait and RxCountWait with nothing queued (R214; section 3 on the FIFO reset). -/
def Obligations.BusTakesEntriesInOrder : Prop :=
  ∀ s : State, BusOn s →
    (∀ (e : Entry) (rest : List Entry), s.txf = e :: rest →
      (s.ls = .idle → e.getLsbD 8 = true → s.env.extBusy = false →
        busStep s = .next { s with
          txf := rest, isr := isrAfterPop s rest, trace := s.trace ++ [.start]
          ls := .sendAddr (e.extractLsb' 0 8) (e.getLsbD 9) }) ∧
      (s.ls = .idle → e.getLsbD 8 = true → s.env.extBusy = true →
        Quiescent s ∧ ∀ t, busStep s = .next t → t = s) ∧
      (s.ls = .txWait → e.getLsbD 8 = true →
        busStep s = .next { s with
          txf := rest, isr := isrAfterPop s rest, trace := s.trace ++ [.rstart]
          ls := .sendAddr (e.extractLsb' 0 8) (e.getLsbD 9) }) ∧
      (s.ls = .txWait → e.getLsbD 8 = false →
        busStep s = .next { s with
          txf := rest, isr := isrAfterPop s rest
          ls := .sendData (e.extractLsb' 0 8) (e.getLsbD 9) }) ∧
      (s.ls = .rxCountWait → e.getLsbD 8 = false → e.getLsbD 9 = true →
        e.extractLsb' 0 8 ≠ 0#8 →
        busStep s = .next { s with
          txf := rest, isr := isrAfterPop s rest, ls := .rx (e.extractLsb' 0 8).toNat })) ∧
    (s.ls = .idle ∨ s.ls = .txWait ∨ s.ls = .rxCountWait → s.txf = [] →
      Quiescent s ∧ (∀ t, busStep s = .next t → t = s) ∧ ownBusy s.ls = decide (s.ls ≠ .idle))

/-- 45_bus_side.md R216: an entry outside the framing grammar: the fault recorded, the entry and the
line left as they are, and no further bus-side step until disable or reset. -/
def Obligations.FramingFaultStopsTheBus : Prop :=
  ∀ (s : State) (e : Entry) (rest : List Entry), BusOn s → s.txf = e :: rest →
    ((s.ls = .idle ∧ e.getLsbD 8 = false) ∨ (s.ls = .rxCountWait ∧
      (e.getLsbD 8 = true ∨ e.getLsbD 9 = false ∨ e.extractLsb' 0 8 = 0#8))) →
    busStep s = .next { s with
      faults := withFault (.framingFault e) s.faults, framingBlocked := true } ∧
    ∀ t : State, t.framingBlocked = true → Quiescent t

/-- 45_bus_side.md section 3: the answer to an address byte and to a data byte where the environment
does not answer LOST: with one master always (ArbitrationLossHaltsTheBus), with several when it chooses
so; `v` is `s` after that choice. Which entry the FramingFault of an acknowledged read address with the stop flag records, the one that was
taken, is the model's reading (log entry 20). -/
def Obligations.SentBytesAreAnswered : Prop :=
  ∀ (s v u : State) (b : Byte) (stop ack : Bool), BusOn s → askLost s = (false, v) →
    (s.ls = .sendAddr b stop → askAck (.addr b) v = (ack, u) →
      busStep s = .next { u with
        trace := s.trace ++ [.addr b ack], env := observe (.addr b ack) u.env
        isr := if ack then s.isr else s.isr ||| 0x02#8
        ls := if ack = false then .stopping true
          else if b.getLsbD 0 = true then (if stop then s.ls else .rxCountWait)
          else if stop then .stopping false else .txWait
        faults := if ack = true ∧ b.getLsbD 0 = true ∧ stop = true then
          withFault (.framingFault (3#2 ++ b : BitVec (2 + 8))) s.faults else s.faults
        framingBlocked := decide (ack = true ∧ b.getLsbD 0 = true ∧ stop = true) }) ∧
    (s.ls = .sendData b stop → askAck (.txb b) v = (ack, u) →
      busStep s = .next { u with
        trace := s.trace ++ [.txb b ack], env := observe (.txb b ack) u.env
        isr := if ack then s.isr else s.isr ||| 0x02#8
        ls := if ack = false then .stopping true
          else if stop then .stopping false else .txWait })

/-- 45_bus_side.md R219: `Lost`, only under MULTI_MASTER. -/
def Obligations.ArbitrationLossHaltsTheBus : Prop :=
  (∀ (s u : State) (b : Byte) (stop : Bool), BusOn s →
    s.ls = .sendAddr b stop ∨ s.ls = .sendData b stop → askLost s = (true, u) →
    ∃ t, busStep s = .next t ∧ s.params.multiMaster = true ∧ t.trace = s.trace ++ [.lost] ∧
      t.isr = s.isr ||| (if s.params.arbLostSetsError then 0x03#8 else 0x01#8) ∧
      t.ls = .halted ∧ t.env.extBusy = true ∧ t.txf = s.txf ∧ t.rxf = s.rxf ∧ t.cr = s.cr ∧
      t.eng = s.eng ∧ t.faults = s.faults) ∧
  (∀ s : State, s.params.multiMaster = false → askLost s = (false, s))

/-- 45_bus_side.md R220, R221, R222: receiving with flow control, the stop condition, and Halted. -/
def Obligations.ReceiveStopAndHalt : Prop :=
  ∀ s : State, BusOn s →
    (∀ n b u, s.ls = .rx n → s.rxf.length < s.params.rxDepth → askByte s = (b, u) →
      busStep s = .next { u with
        rxf := s.rxf ++ [b]
        isr := if s.rxPirq.toNat + 1 ≤ s.rxf.length + 1 then s.isr ||| 0x08#8 else s.isr
        trace := s.trace ++ [.rxb b (decide (1 < n))]
        env := observe (.rxb b (decide (1 < n))) u.env
        ls := if 1 < n then .rx (n - 1) else .stopping false }) ∧
    (∀ n, s.ls = .rx n → s.params.rxDepth ≤ s.rxf.length → busStep s = .next s) ∧
    (∀ halt, s.ls = .stopping halt → busStep s = .next { s with
      trace := s.trace ++ [.stop], env := observe .stop s.env, isr := s.isr ||| 0x10#8
      ls := if halt then .halted else .idle }) ∧
    (s.ls = .halted → busStep s = .next s)

/-- 45_bus_side.md R211, R232: nothing moves with EN = 0; with EN = 1 and MSMS = 1 the bus side is
refused and the registers stay as they are; elsewhere a quiescent bus side changes nothing. That the
second question stops the machine is log entry 10, and that a turn without an enabled step passes is
log entry 23. -/
def Obligations.DisabledAndStaticBusDoNothing : Prop :=
  ∀ s : State, Refusal.staticModeNotSpecified ∉ s.refused →
    (s.cr.getLsbD 0 = false → busStep s = .next s) ∧
    (¬ (s.cr.getLsbD 0 = true ∧ s.cr.getLsbD 2 = true) → Quiescent s → busStep s = .next s) ∧
    (s.cr.getLsbD 0 = true → s.cr.getLsbD 2 = true →
      busStep s = .next { s with refused := s.refused ++ [.staticModeNotSpecified] } ∧
      busStep { s with refused := s.refused ++ [.staticModeNotSpecified] } =
        .refused .staticModeNotSpecified)

/-- 10_state.md R21, 45_bus_side.md R227: no bus-side step changes CR, RX_PIRQ, GPO, the engine, the
results or the host's side; an interrupt flag once set stays set, and the two slave flags are never
set. -/
def Obligations.BusLeavesRegistersAlone : Prop :=
  ∀ s t : State, busStep s = .next t →
    t.cr = s.cr ∧ t.rxPirq = s.rxPirq ∧ t.gpo = s.gpo ∧ t.eng = s.eng ∧ t.res = s.res ∧
    t.ret = s.ret ∧ t.inputs = s.inputs ∧ t.turns = s.turns ∧ t.params = s.params ∧
    t.isr ||| s.isr = t.isr ∧ t.isr.getLsbD 5 = s.isr.getLsbD 5 ∧
    t.isr.getLsbD 6 = s.isr.getLsbD 6

/-- 45_bus_side.md R229: `EnvBusy`. -/
def Obligations.EnvironmentTogglesTheBusyBit : Prop :=
  ∀ (s : State) (ts : List Agent), stopReason s = none → s.turns = .env :: ts →
    (s.params.extBusyAllowed = true → (s.ls = .idle ∨ s.ls = .halted) →
      step s = .next { s with
        turns := ts, env := { s.env with extBusy := !s.env.extBusy } }) ∧
    (¬ (s.params.extBusyAllowed = true ∧ (s.ls = .idle ∨ s.ls = .halted)) →
      step s = .next { s with turns := ts })

/-- 45_bus_side.md R230: a pointer slave written at an index and read back from it yields the bytes
written, as long as the pointer does not come round. -/
def Obligations.ReferenceSlaveReadsBack : Prop :=
  ∀ (d : SimDev) (index : Byte) (bytes : List Byte) (n : Nat), d.kind = .pointer →
    d.volatile = [] → Memory.wf d.regs → bytes.length ≤ 256 → n < bytes.length →
    let written := (BusEvent.addr (wireAddress d.address false) true :: .txb index true ::
      bytes.map fun b => .txb b true).foldl (fun d ev => simObserve ev d) d
    let selected := [BusEvent.addr (wireAddress d.address false) true, .txb index true, .rstart,
      .addr (wireAddress d.address true) true].foldl (fun d ev => simObserve ev d) written
    bytes[n]? = some (simRead ((fun d => simObserve (.rxb (simRead d) true) d)^[n] selected))

/-! ### The whole machine -/

/-- 10_state.md R42, 45_bus_side.md R210, 10_state.md R44: in every step the trace is only appended
to, no fault and no refusal is ever taken back, and no parameter changes. -/
def Obligations.TraceAndMarksOnlyGrow : Prop :=
  ∀ s t : State, step s = .next t →
    s.trace <+: t.trace ∧ s.faults <+: t.faults ∧ s.refused <+: t.refused ∧
      t.params = s.params

/-- 10_state.md R37, R31, 70_reset_and_hazards.md R286: the failure flag changes only at step W5 or by
`rst`, and GPO only by a host's turn, where soft reset leaves it alone. -/
def Obligations.ResultsAndPinsChangeOnlyByTheirWriters : Prop :=
  ∀ s t : State, step s = .next t →
    (t.res.fail ≠ s.res.fail →
      ((nextAgent s).1 = .engine ∧ s.eng.mode = .run ∧ s.eng.upc = .w5) ∨
      ((nextAgent s).1 = .host ∧ s.inputs.head? = some .rst)) ∧
    (t.gpo ≠ s.gpo → s.params.softrClearsGpo = false → (nextAgent s).1 = .host)

/-- The invariants hold after reset. -/
def Obligations.InvariantsHoldAtReset : Prop :=
  Inv State.reset ∧ TransactionFacts State.reset

/-- 10_state.md R43 and the engine's own invariants: every step keeps them. -/
def Obligations.StepKeepsInvariant : Prop :=
  ∀ s t : State, Inv s → step s = .next t → Inv t

/-- 44_transaction_engine.md section 2, 70_reset_and_hazards.md section 3: what the engine relies on
while a transaction runs is kept by every step of every agent. -/
def Obligations.StepKeepsTransactionFacts : Prop :=
  ∀ s t : State, Inv s → TransactionFacts s → step s = .next t → TransactionFacts t

/-- 44_transaction_engine.md section 4 (a transaction's read never meets an empty FIFO),
70_reset_and_hazards.md section 3 (a write with `count + 1 ≤ TX_DEPTH` never overflows),
60_exceptions.md section 4 (every transaction leaves the device disabled). -/
def Obligations.TransactionsKeepTheirPromises : Prop :=
  ∀ s t : State, Inv s → TransactionFacts s → s.eng.mode = .run → engineStep s = .next t →
    s.eng.cmd ≠ .dequeueWord →
    (Fault.rxUnderflow ∈ t.faults → Fault.rxUnderflow ∈ s.faults) ∧
    (∀ address count data e, s.eng.cmd = .writeReg address count data →
      count.toNat + 1 ≤ s.params.txDepth →
      Fault.txOverflow e ∈ t.faults → Fault.txOverflow e ∈ s.faults) ∧
    ((∃ address count data, s.eng.cmd = .writeReg address count data) ∨
        (∃ address count, s.eng.cmd = .readReg address count) ∨
        (∃ address regindex count, s.eng.cmd = .readRegSel address regindex count) →
      t.eng.mode = .idle → t.cr = 0x00000000#32 ∧ t.ls = .idle)

/-- 46_bringup_caller.md: a step with a failed register access, a write that reports failure, a wrong
switch position and a read-back that differs each abort the sequence, which is then over; the read-back
is judged byte by byte and the first mismatch reported; the ready poll repeats while the ready bit is
set. -/
def Obligations.BringUpReportsTheFirstMismatch : Prop :=
  ∀ (p : BringUpParams) (fail : Bool) (read : Nat → Byte) (reg : Byte) (bytes : List Byte)
    (left : List (Byte × List Byte)),
    (∀ gpo phase, bringUpInstr p gpo phase ≠ none →
      bringUpNext p true fail read phase = .aborted .accessFailed) ∧
    (bringUpNext p false fail read .selectPort =
      if fail then .aborted .writeFailed else .verifyPort) ∧
    (bringUpNext p false fail read .verifyPort =
      if read 0 = p.switchPortByte then nextConfig p.configList else .aborted .switchMismatch) ∧
    (bringUpNext p false fail read (.writeConfig ((reg, bytes) :: left)) =
      if fail then .aborted .writeFailed else .readBack reg bytes left) ∧
    (∀ accessFailed why,
      bringUpNext p accessFailed fail read (.aborted why) = .aborted why) ∧
    (∀ i, bringUpNext p false fail read (.readBack reg bytes left) = .aborted (.registerFailed i) ↔
      (∃ b, bytes[i]? = some b ∧ read i ≠ b) ∧
        ∀ j, j < i → bytes[j]? = some (read j)) ∧
    ((∀ j, j < bytes.length → bytes[j]? = some (read j)) →
      bringUpNext p false fail read (.readBack reg bytes left) = nextConfig left) ∧
    (bringUpNext p false fail read .pollReady = .pollReady ↔
      (read 0).getLsbD p.readyBit.val = true)
end

