-- ==== Sys2Proof/Laws/State.lean ====
section
/-! SUPPORT. One lemma per field per update of State: what each small update writes and that it leaves
every other field alone, each true by unfolding once, so that no proof unfolds a record update. -/

namespace Sys2Proof.Machine

/-! ### goto -/

@[simp] theorem goto_params (l : Label) (s : State) :
    (goto l s).params = s.params := rfl
@[simp] theorem goto_cr (l : Label) (s : State) :
    (goto l s).cr = s.cr := rfl
@[simp] theorem goto_isr (l : Label) (s : State) :
    (goto l s).isr = s.isr := rfl
@[simp] theorem goto_rxPirq (l : Label) (s : State) :
    (goto l s).rxPirq = s.rxPirq := rfl
@[simp] theorem goto_gpo (l : Label) (s : State) :
    (goto l s).gpo = s.gpo := rfl
@[simp] theorem goto_txf (l : Label) (s : State) :
    (goto l s).txf = s.txf := rfl
@[simp] theorem goto_rxf (l : Label) (s : State) :
    (goto l s).rxf = s.rxf := rfl
@[simp] theorem goto_ls (l : Label) (s : State) :
    (goto l s).ls = s.ls := rfl
@[simp] theorem goto_framingBlocked (l : Label) (s : State) :
    (goto l s).framingBlocked = s.framingBlocked := rfl
@[simp] theorem goto_env (l : Label) (s : State) :
    (goto l s).env = s.env := rfl
@[simp] theorem goto_trace (l : Label) (s : State) :
    (goto l s).trace = s.trace := rfl
@[simp] theorem goto_res (l : Label) (s : State) :
    (goto l s).res = s.res := rfl
@[simp] theorem goto_faults (l : Label) (s : State) :
    (goto l s).faults = s.faults := rfl
@[simp] theorem goto_refused (l : Label) (s : State) :
    (goto l s).refused = s.refused := rfl
@[simp] theorem goto_ret (l : Label) (s : State) :
    (goto l s).ret = s.ret := rfl
@[simp] theorem goto_inputs (l : Label) (s : State) :
    (goto l s).inputs = s.inputs := rfl
@[simp] theorem goto_turns (l : Label) (s : State) :
    (goto l s).turns = s.turns := rfl
@[simp] theorem goto_policy (l : Label) (s : State) :
    (goto l s).policy = s.policy := rfl
@[simp] theorem goto_draws (l : Label) (s : State) :
    (goto l s).draws = s.draws := rfl
@[simp] theorem goto_eng_mode (l : Label) (s : State) :
    (goto l s).eng.mode = s.eng.mode := rfl
@[simp] theorem goto_eng_upc (l : Label) (s : State) :
    (goto l s).eng.upc = l := rfl
@[simp] theorem goto_eng_cmd (l : Label) (s : State) :
    (goto l s).eng.cmd = s.eng.cmd := rfl
@[simp] theorem goto_eng_tmp (l : Label) (s : State) :
    (goto l s).eng.tmp = s.eng.tmp := rfl
@[simp] theorem goto_eng_st (l : Label) (s : State) :
    (goto l s).eng.st = s.eng.st := rfl
@[simp] theorem goto_eng_isr (l : Label) (s : State) :
    (goto l s).eng.isr = s.eng.isr := rfl
@[simp] theorem goto_eng_i (l : Label) (s : State) :
    (goto l s).eng.i = s.eng.i := rfl

/-! ### finish -/

@[simp] theorem finish_params (s : State) :
    (finish s).params = s.params := rfl
@[simp] theorem finish_cr (s : State) :
    (finish s).cr = s.cr := rfl
@[simp] theorem finish_isr (s : State) :
    (finish s).isr = s.isr := rfl
@[simp] theorem finish_rxPirq (s : State) :
    (finish s).rxPirq = s.rxPirq := rfl
@[simp] theorem finish_gpo (s : State) :
    (finish s).gpo = s.gpo := rfl
@[simp] theorem finish_txf (s : State) :
    (finish s).txf = s.txf := rfl
@[simp] theorem finish_rxf (s : State) :
    (finish s).rxf = s.rxf := rfl
@[simp] theorem finish_ls (s : State) :
    (finish s).ls = s.ls := rfl
@[simp] theorem finish_framingBlocked (s : State) :
    (finish s).framingBlocked = s.framingBlocked := rfl
@[simp] theorem finish_env (s : State) :
    (finish s).env = s.env := rfl
@[simp] theorem finish_trace (s : State) :
    (finish s).trace = s.trace := rfl
@[simp] theorem finish_res (s : State) :
    (finish s).res = s.res := rfl
@[simp] theorem finish_faults (s : State) :
    (finish s).faults = s.faults := rfl
@[simp] theorem finish_refused (s : State) :
    (finish s).refused = s.refused := rfl
@[simp] theorem finish_ret (s : State) :
    (finish s).ret = s.ret := rfl
@[simp] theorem finish_inputs (s : State) :
    (finish s).inputs = s.inputs := rfl
@[simp] theorem finish_turns (s : State) :
    (finish s).turns = s.turns := rfl
@[simp] theorem finish_policy (s : State) :
    (finish s).policy = s.policy := rfl
@[simp] theorem finish_draws (s : State) :
    (finish s).draws = s.draws := rfl
@[simp] theorem finish_eng_mode (s : State) :
    (finish s).eng.mode = .idle := rfl
@[simp] theorem finish_eng_upc (s : State) :
    (finish s).eng.upc = s.eng.upc := rfl
@[simp] theorem finish_eng_cmd (s : State) :
    (finish s).eng.cmd = s.eng.cmd := rfl
@[simp] theorem finish_eng_tmp (s : State) :
    (finish s).eng.tmp = s.eng.tmp := rfl
@[simp] theorem finish_eng_st (s : State) :
    (finish s).eng.st = s.eng.st := rfl
@[simp] theorem finish_eng_isr (s : State) :
    (finish s).eng.isr = s.eng.isr := rfl
@[simp] theorem finish_eng_i (s : State) :
    (finish s).eng.i = s.eng.i := rfl

/-! ### setTmp -/

@[simp] theorem setTmp_params (w : Word) (s : State) :
    (setTmp w s).params = s.params := rfl
@[simp] theorem setTmp_cr (w : Word) (s : State) :
    (setTmp w s).cr = s.cr := rfl
@[simp] theorem setTmp_isr (w : Word) (s : State) :
    (setTmp w s).isr = s.isr := rfl
@[simp] theorem setTmp_rxPirq (w : Word) (s : State) :
    (setTmp w s).rxPirq = s.rxPirq := rfl
@[simp] theorem setTmp_gpo (w : Word) (s : State) :
    (setTmp w s).gpo = s.gpo := rfl
@[simp] theorem setTmp_txf (w : Word) (s : State) :
    (setTmp w s).txf = s.txf := rfl
@[simp] theorem setTmp_rxf (w : Word) (s : State) :
    (setTmp w s).rxf = s.rxf := rfl
@[simp] theorem setTmp_ls (w : Word) (s : State) :
    (setTmp w s).ls = s.ls := rfl
@[simp] theorem setTmp_framingBlocked (w : Word) (s : State) :
    (setTmp w s).framingBlocked = s.framingBlocked := rfl
@[simp] theorem setTmp_env (w : Word) (s : State) :
    (setTmp w s).env = s.env := rfl
@[simp] theorem setTmp_trace (w : Word) (s : State) :
    (setTmp w s).trace = s.trace := rfl
@[simp] theorem setTmp_res (w : Word) (s : State) :
    (setTmp w s).res = s.res := rfl
@[simp] theorem setTmp_faults (w : Word) (s : State) :
    (setTmp w s).faults = s.faults := rfl
@[simp] theorem setTmp_refused (w : Word) (s : State) :
    (setTmp w s).refused = s.refused := rfl
@[simp] theorem setTmp_ret (w : Word) (s : State) :
    (setTmp w s).ret = s.ret := rfl
@[simp] theorem setTmp_inputs (w : Word) (s : State) :
    (setTmp w s).inputs = s.inputs := rfl
@[simp] theorem setTmp_turns (w : Word) (s : State) :
    (setTmp w s).turns = s.turns := rfl
@[simp] theorem setTmp_policy (w : Word) (s : State) :
    (setTmp w s).policy = s.policy := rfl
@[simp] theorem setTmp_draws (w : Word) (s : State) :
    (setTmp w s).draws = s.draws := rfl
@[simp] theorem setTmp_eng_mode (w : Word) (s : State) :
    (setTmp w s).eng.mode = s.eng.mode := rfl
@[simp] theorem setTmp_eng_upc (w : Word) (s : State) :
    (setTmp w s).eng.upc = s.eng.upc := rfl
@[simp] theorem setTmp_eng_cmd (w : Word) (s : State) :
    (setTmp w s).eng.cmd = s.eng.cmd := rfl
@[simp] theorem setTmp_eng_tmp (w : Word) (s : State) :
    (setTmp w s).eng.tmp = w := rfl
@[simp] theorem setTmp_eng_st (w : Word) (s : State) :
    (setTmp w s).eng.st = s.eng.st := rfl
@[simp] theorem setTmp_eng_isr (w : Word) (s : State) :
    (setTmp w s).eng.isr = s.eng.isr := rfl
@[simp] theorem setTmp_eng_i (w : Word) (s : State) :
    (setTmp w s).eng.i = s.eng.i := rfl

/-! ### setSt -/

@[simp] theorem setSt_params (w : Word) (s : State) :
    (setSt w s).params = s.params := rfl
@[simp] theorem setSt_cr (w : Word) (s : State) :
    (setSt w s).cr = s.cr := rfl
@[simp] theorem setSt_isr (w : Word) (s : State) :
    (setSt w s).isr = s.isr := rfl
@[simp] theorem setSt_rxPirq (w : Word) (s : State) :
    (setSt w s).rxPirq = s.rxPirq := rfl
@[simp] theorem setSt_gpo (w : Word) (s : State) :
    (setSt w s).gpo = s.gpo := rfl
@[simp] theorem setSt_txf (w : Word) (s : State) :
    (setSt w s).txf = s.txf := rfl
@[simp] theorem setSt_rxf (w : Word) (s : State) :
    (setSt w s).rxf = s.rxf := rfl
@[simp] theorem setSt_ls (w : Word) (s : State) :
    (setSt w s).ls = s.ls := rfl
@[simp] theorem setSt_framingBlocked (w : Word) (s : State) :
    (setSt w s).framingBlocked = s.framingBlocked := rfl
@[simp] theorem setSt_env (w : Word) (s : State) :
    (setSt w s).env = s.env := rfl
@[simp] theorem setSt_trace (w : Word) (s : State) :
    (setSt w s).trace = s.trace := rfl
@[simp] theorem setSt_res (w : Word) (s : State) :
    (setSt w s).res = s.res := rfl
@[simp] theorem setSt_faults (w : Word) (s : State) :
    (setSt w s).faults = s.faults := rfl
@[simp] theorem setSt_refused (w : Word) (s : State) :
    (setSt w s).refused = s.refused := rfl
@[simp] theorem setSt_ret (w : Word) (s : State) :
    (setSt w s).ret = s.ret := rfl
@[simp] theorem setSt_inputs (w : Word) (s : State) :
    (setSt w s).inputs = s.inputs := rfl
@[simp] theorem setSt_turns (w : Word) (s : State) :
    (setSt w s).turns = s.turns := rfl
@[simp] theorem setSt_policy (w : Word) (s : State) :
    (setSt w s).policy = s.policy := rfl
@[simp] theorem setSt_draws (w : Word) (s : State) :
    (setSt w s).draws = s.draws := rfl
@[simp] theorem setSt_eng_mode (w : Word) (s : State) :
    (setSt w s).eng.mode = s.eng.mode := rfl
@[simp] theorem setSt_eng_upc (w : Word) (s : State) :
    (setSt w s).eng.upc = s.eng.upc := rfl
@[simp] theorem setSt_eng_cmd (w : Word) (s : State) :
    (setSt w s).eng.cmd = s.eng.cmd := rfl
@[simp] theorem setSt_eng_tmp (w : Word) (s : State) :
    (setSt w s).eng.tmp = s.eng.tmp := rfl
@[simp] theorem setSt_eng_st (w : Word) (s : State) :
    (setSt w s).eng.st = lowByte w := rfl
@[simp] theorem setSt_eng_isr (w : Word) (s : State) :
    (setSt w s).eng.isr = s.eng.isr := rfl
@[simp] theorem setSt_eng_i (w : Word) (s : State) :
    (setSt w s).eng.i = s.eng.i := rfl

/-! ### setEngIsr -/

@[simp] theorem setEngIsr_params (w : Word) (s : State) :
    (setEngIsr w s).params = s.params := rfl
@[simp] theorem setEngIsr_cr (w : Word) (s : State) :
    (setEngIsr w s).cr = s.cr := rfl
@[simp] theorem setEngIsr_isr (w : Word) (s : State) :
    (setEngIsr w s).isr = s.isr := rfl
@[simp] theorem setEngIsr_rxPirq (w : Word) (s : State) :
    (setEngIsr w s).rxPirq = s.rxPirq := rfl
@[simp] theorem setEngIsr_gpo (w : Word) (s : State) :
    (setEngIsr w s).gpo = s.gpo := rfl
@[simp] theorem setEngIsr_txf (w : Word) (s : State) :
    (setEngIsr w s).txf = s.txf := rfl
@[simp] theorem setEngIsr_rxf (w : Word) (s : State) :
    (setEngIsr w s).rxf = s.rxf := rfl
@[simp] theorem setEngIsr_ls (w : Word) (s : State) :
    (setEngIsr w s).ls = s.ls := rfl
@[simp] theorem setEngIsr_framingBlocked (w : Word) (s : State) :
    (setEngIsr w s).framingBlocked = s.framingBlocked := rfl
@[simp] theorem setEngIsr_env (w : Word) (s : State) :
    (setEngIsr w s).env = s.env := rfl
@[simp] theorem setEngIsr_trace (w : Word) (s : State) :
    (setEngIsr w s).trace = s.trace := rfl
@[simp] theorem setEngIsr_res (w : Word) (s : State) :
    (setEngIsr w s).res = s.res := rfl
@[simp] theorem setEngIsr_faults (w : Word) (s : State) :
    (setEngIsr w s).faults = s.faults := rfl
@[simp] theorem setEngIsr_refused (w : Word) (s : State) :
    (setEngIsr w s).refused = s.refused := rfl
@[simp] theorem setEngIsr_ret (w : Word) (s : State) :
    (setEngIsr w s).ret = s.ret := rfl
@[simp] theorem setEngIsr_inputs (w : Word) (s : State) :
    (setEngIsr w s).inputs = s.inputs := rfl
@[simp] theorem setEngIsr_turns (w : Word) (s : State) :
    (setEngIsr w s).turns = s.turns := rfl
@[simp] theorem setEngIsr_policy (w : Word) (s : State) :
    (setEngIsr w s).policy = s.policy := rfl
@[simp] theorem setEngIsr_draws (w : Word) (s : State) :
    (setEngIsr w s).draws = s.draws := rfl
@[simp] theorem setEngIsr_eng_mode (w : Word) (s : State) :
    (setEngIsr w s).eng.mode = s.eng.mode := rfl
@[simp] theorem setEngIsr_eng_upc (w : Word) (s : State) :
    (setEngIsr w s).eng.upc = s.eng.upc := rfl
@[simp] theorem setEngIsr_eng_cmd (w : Word) (s : State) :
    (setEngIsr w s).eng.cmd = s.eng.cmd := rfl
@[simp] theorem setEngIsr_eng_tmp (w : Word) (s : State) :
    (setEngIsr w s).eng.tmp = s.eng.tmp := rfl
@[simp] theorem setEngIsr_eng_st (w : Word) (s : State) :
    (setEngIsr w s).eng.st = s.eng.st := rfl
@[simp] theorem setEngIsr_eng_isr (w : Word) (s : State) :
    (setEngIsr w s).eng.isr = lowByte w := rfl
@[simp] theorem setEngIsr_eng_i (w : Word) (s : State) :
    (setEngIsr w s).eng.i = s.eng.i := rfl

/-! ### setI -/

@[simp] theorem setI_params (v : Byte) (s : State) :
    (setI v s).params = s.params := rfl
@[simp] theorem setI_cr (v : Byte) (s : State) :
    (setI v s).cr = s.cr := rfl
@[simp] theorem setI_isr (v : Byte) (s : State) :
    (setI v s).isr = s.isr := rfl
@[simp] theorem setI_rxPirq (v : Byte) (s : State) :
    (setI v s).rxPirq = s.rxPirq := rfl
@[simp] theorem setI_gpo (v : Byte) (s : State) :
    (setI v s).gpo = s.gpo := rfl
@[simp] theorem setI_txf (v : Byte) (s : State) :
    (setI v s).txf = s.txf := rfl
@[simp] theorem setI_rxf (v : Byte) (s : State) :
    (setI v s).rxf = s.rxf := rfl
@[simp] theorem setI_ls (v : Byte) (s : State) :
    (setI v s).ls = s.ls := rfl
@[simp] theorem setI_framingBlocked (v : Byte) (s : State) :
    (setI v s).framingBlocked = s.framingBlocked := rfl
@[simp] theorem setI_env (v : Byte) (s : State) :
    (setI v s).env = s.env := rfl
@[simp] theorem setI_trace (v : Byte) (s : State) :
    (setI v s).trace = s.trace := rfl
@[simp] theorem setI_res (v : Byte) (s : State) :
    (setI v s).res = s.res := rfl
@[simp] theorem setI_faults (v : Byte) (s : State) :
    (setI v s).faults = s.faults := rfl
@[simp] theorem setI_refused (v : Byte) (s : State) :
    (setI v s).refused = s.refused := rfl
@[simp] theorem setI_ret (v : Byte) (s : State) :
    (setI v s).ret = s.ret := rfl
@[simp] theorem setI_inputs (v : Byte) (s : State) :
    (setI v s).inputs = s.inputs := rfl
@[simp] theorem setI_turns (v : Byte) (s : State) :
    (setI v s).turns = s.turns := rfl
@[simp] theorem setI_policy (v : Byte) (s : State) :
    (setI v s).policy = s.policy := rfl
@[simp] theorem setI_draws (v : Byte) (s : State) :
    (setI v s).draws = s.draws := rfl
@[simp] theorem setI_eng_mode (v : Byte) (s : State) :
    (setI v s).eng.mode = s.eng.mode := rfl
@[simp] theorem setI_eng_upc (v : Byte) (s : State) :
    (setI v s).eng.upc = s.eng.upc := rfl
@[simp] theorem setI_eng_cmd (v : Byte) (s : State) :
    (setI v s).eng.cmd = s.eng.cmd := rfl
@[simp] theorem setI_eng_tmp (v : Byte) (s : State) :
    (setI v s).eng.tmp = s.eng.tmp := rfl
@[simp] theorem setI_eng_st (v : Byte) (s : State) :
    (setI v s).eng.st = s.eng.st := rfl
@[simp] theorem setI_eng_isr (v : Byte) (s : State) :
    (setI v s).eng.isr = s.eng.isr := rfl
@[simp] theorem setI_eng_i (v : Byte) (s : State) :
    (setI v s).eng.i = v := rfl

/-! ### acknowledge -/

@[simp] theorem acknowledge_params (s : State) :
    (acknowledge s).params = s.params := rfl
@[simp] theorem acknowledge_cr (s : State) :
    (acknowledge s).cr = s.cr := rfl
@[simp] theorem acknowledge_isr (s : State) :
    (acknowledge s).isr = s.isr := rfl
@[simp] theorem acknowledge_rxPirq (s : State) :
    (acknowledge s).rxPirq = s.rxPirq := rfl
@[simp] theorem acknowledge_gpo (s : State) :
    (acknowledge s).gpo = s.gpo := rfl
@[simp] theorem acknowledge_txf (s : State) :
    (acknowledge s).txf = s.txf := rfl
@[simp] theorem acknowledge_rxf (s : State) :
    (acknowledge s).rxf = s.rxf := rfl
@[simp] theorem acknowledge_ls (s : State) :
    (acknowledge s).ls = s.ls := rfl
@[simp] theorem acknowledge_framingBlocked (s : State) :
    (acknowledge s).framingBlocked = s.framingBlocked := rfl
@[simp] theorem acknowledge_env (s : State) :
    (acknowledge s).env = s.env := rfl
@[simp] theorem acknowledge_trace (s : State) :
    (acknowledge s).trace = s.trace := rfl
@[simp] theorem acknowledge_res (s : State) :
    (acknowledge s).res = s.res := rfl
@[simp] theorem acknowledge_faults (s : State) :
    (acknowledge s).faults = s.faults := rfl
@[simp] theorem acknowledge_refused (s : State) :
    (acknowledge s).refused = s.refused := rfl
@[simp] theorem acknowledge_ret (s : State) :
    (acknowledge s).ret = s.ret := rfl
@[simp] theorem acknowledge_inputs (s : State) :
    (acknowledge s).inputs = s.inputs := rfl
@[simp] theorem acknowledge_turns (s : State) :
    (acknowledge s).turns = s.turns := rfl
@[simp] theorem acknowledge_policy (s : State) :
    (acknowledge s).policy = s.policy := rfl
@[simp] theorem acknowledge_draws (s : State) :
    (acknowledge s).draws = s.draws := rfl
@[simp] theorem acknowledge_eng_mode (s : State) :
    (acknowledge s).eng.mode = .idle := rfl
@[simp] theorem acknowledge_eng_upc (s : State) :
    (acknowledge s).eng.upc = s.eng.upc := rfl
@[simp] theorem acknowledge_eng_cmd (s : State) :
    (acknowledge s).eng.cmd = s.eng.cmd := rfl
@[simp] theorem acknowledge_eng_tmp (s : State) :
    (acknowledge s).eng.tmp = s.eng.tmp := rfl
@[simp] theorem acknowledge_eng_st (s : State) :
    (acknowledge s).eng.st = s.eng.st := rfl
@[simp] theorem acknowledge_eng_isr (s : State) :
    (acknowledge s).eng.isr = s.eng.isr := rfl
@[simp] theorem acknowledge_eng_i (s : State) :
    (acknowledge s).eng.i = s.eng.i := rfl

/-! ### setData -/

@[simp] theorem setData_params (k : Nat) (b : Byte) (s : State) :
    (setData k b s).params = s.params := rfl
@[simp] theorem setData_cr (k : Nat) (b : Byte) (s : State) :
    (setData k b s).cr = s.cr := rfl
@[simp] theorem setData_isr (k : Nat) (b : Byte) (s : State) :
    (setData k b s).isr = s.isr := rfl
@[simp] theorem setData_rxPirq (k : Nat) (b : Byte) (s : State) :
    (setData k b s).rxPirq = s.rxPirq := rfl
@[simp] theorem setData_gpo (k : Nat) (b : Byte) (s : State) :
    (setData k b s).gpo = s.gpo := rfl
@[simp] theorem setData_txf (k : Nat) (b : Byte) (s : State) :
    (setData k b s).txf = s.txf := rfl
@[simp] theorem setData_rxf (k : Nat) (b : Byte) (s : State) :
    (setData k b s).rxf = s.rxf := rfl
@[simp] theorem setData_ls (k : Nat) (b : Byte) (s : State) :
    (setData k b s).ls = s.ls := rfl
@[simp] theorem setData_framingBlocked (k : Nat) (b : Byte) (s : State) :
    (setData k b s).framingBlocked = s.framingBlocked := rfl
@[simp] theorem setData_env (k : Nat) (b : Byte) (s : State) :
    (setData k b s).env = s.env := rfl
@[simp] theorem setData_trace (k : Nat) (b : Byte) (s : State) :
    (setData k b s).trace = s.trace := rfl
@[simp] theorem setData_eng (k : Nat) (b : Byte) (s : State) :
    (setData k b s).eng = s.eng := rfl
@[simp] theorem setData_faults (k : Nat) (b : Byte) (s : State) :
    (setData k b s).faults = s.faults := rfl
@[simp] theorem setData_refused (k : Nat) (b : Byte) (s : State) :
    (setData k b s).refused = s.refused := rfl
@[simp] theorem setData_ret (k : Nat) (b : Byte) (s : State) :
    (setData k b s).ret = s.ret := rfl
@[simp] theorem setData_inputs (k : Nat) (b : Byte) (s : State) :
    (setData k b s).inputs = s.inputs := rfl
@[simp] theorem setData_turns (k : Nat) (b : Byte) (s : State) :
    (setData k b s).turns = s.turns := rfl
@[simp] theorem setData_policy (k : Nat) (b : Byte) (s : State) :
    (setData k b s).policy = s.policy := rfl
@[simp] theorem setData_draws (k : Nat) (b : Byte) (s : State) :
    (setData k b s).draws = s.draws := rfl
@[simp] theorem setData_res_fail (k : Nat) (b : Byte) (s : State) :
    (setData k b s).res.fail = s.res.fail := rfl
@[simp] theorem setData_res_data (k : Nat) (b : Byte) (s : State) :
    (setData k b s).res.data = memWrite s.res.data k b := rfl
@[simp] theorem setData_res_isr (k : Nat) (b : Byte) (s : State) :
    (setData k b s).res.isr = s.res.isr := rfl
@[simp] theorem setData_res_status (k : Nat) (b : Byte) (s : State) :
    (setData k b s).res.status = s.res.status := rfl
@[simp] theorem setData_res_err (k : Nat) (b : Byte) (s : State) :
    (setData k b s).res.err = s.res.err := rfl

/-! ### emit -/

@[simp] theorem emit_params (ev : BusEvent) (s : State) :
    (emit ev s).params = s.params := rfl
@[simp] theorem emit_cr (ev : BusEvent) (s : State) :
    (emit ev s).cr = s.cr := rfl
@[simp] theorem emit_isr (ev : BusEvent) (s : State) :
    (emit ev s).isr = s.isr := rfl
@[simp] theorem emit_rxPirq (ev : BusEvent) (s : State) :
    (emit ev s).rxPirq = s.rxPirq := rfl
@[simp] theorem emit_gpo (ev : BusEvent) (s : State) :
    (emit ev s).gpo = s.gpo := rfl
@[simp] theorem emit_txf (ev : BusEvent) (s : State) :
    (emit ev s).txf = s.txf := rfl
@[simp] theorem emit_rxf (ev : BusEvent) (s : State) :
    (emit ev s).rxf = s.rxf := rfl
@[simp] theorem emit_ls (ev : BusEvent) (s : State) :
    (emit ev s).ls = s.ls := rfl
@[simp] theorem emit_framingBlocked (ev : BusEvent) (s : State) :
    (emit ev s).framingBlocked = s.framingBlocked := rfl
@[simp] theorem emit_eng (ev : BusEvent) (s : State) :
    (emit ev s).eng = s.eng := rfl
@[simp] theorem emit_res (ev : BusEvent) (s : State) :
    (emit ev s).res = s.res := rfl
@[simp] theorem emit_faults (ev : BusEvent) (s : State) :
    (emit ev s).faults = s.faults := rfl
@[simp] theorem emit_refused (ev : BusEvent) (s : State) :
    (emit ev s).refused = s.refused := rfl
@[simp] theorem emit_ret (ev : BusEvent) (s : State) :
    (emit ev s).ret = s.ret := rfl
@[simp] theorem emit_inputs (ev : BusEvent) (s : State) :
    (emit ev s).inputs = s.inputs := rfl
@[simp] theorem emit_turns (ev : BusEvent) (s : State) :
    (emit ev s).turns = s.turns := rfl
@[simp] theorem emit_policy (ev : BusEvent) (s : State) :
    (emit ev s).policy = s.policy := rfl
@[simp] theorem emit_draws (ev : BusEvent) (s : State) :
    (emit ev s).draws = s.draws := rfl
@[simp] theorem emit_trace (ev : BusEvent) (s : State) :
    (emit ev s).trace = s.trace ++ [ev] := rfl
@[simp] theorem emit_env (ev : BusEvent) (s : State) :
    (emit ev s).env = observe ev s.env := rfl

/-! ### raiseFlag -/

@[simp] theorem raiseFlag_params (c : Bool) (m : Byte) (s : State) :
    (raiseFlag c m s).params = s.params := rfl
@[simp] theorem raiseFlag_cr (c : Bool) (m : Byte) (s : State) :
    (raiseFlag c m s).cr = s.cr := rfl
@[simp] theorem raiseFlag_rxPirq (c : Bool) (m : Byte) (s : State) :
    (raiseFlag c m s).rxPirq = s.rxPirq := rfl
@[simp] theorem raiseFlag_gpo (c : Bool) (m : Byte) (s : State) :
    (raiseFlag c m s).gpo = s.gpo := rfl
@[simp] theorem raiseFlag_txf (c : Bool) (m : Byte) (s : State) :
    (raiseFlag c m s).txf = s.txf := rfl
@[simp] theorem raiseFlag_rxf (c : Bool) (m : Byte) (s : State) :
    (raiseFlag c m s).rxf = s.rxf := rfl
@[simp] theorem raiseFlag_ls (c : Bool) (m : Byte) (s : State) :
    (raiseFlag c m s).ls = s.ls := rfl
@[simp] theorem raiseFlag_framingBlocked (c : Bool) (m : Byte) (s : State) :
    (raiseFlag c m s).framingBlocked = s.framingBlocked := rfl
@[simp] theorem raiseFlag_env (c : Bool) (m : Byte) (s : State) :
    (raiseFlag c m s).env = s.env := rfl
@[simp] theorem raiseFlag_trace (c : Bool) (m : Byte) (s : State) :
    (raiseFlag c m s).trace = s.trace := rfl
@[simp] theorem raiseFlag_eng (c : Bool) (m : Byte) (s : State) :
    (raiseFlag c m s).eng = s.eng := rfl
@[simp] theorem raiseFlag_res (c : Bool) (m : Byte) (s : State) :
    (raiseFlag c m s).res = s.res := rfl
@[simp] theorem raiseFlag_faults (c : Bool) (m : Byte) (s : State) :
    (raiseFlag c m s).faults = s.faults := rfl
@[simp] theorem raiseFlag_refused (c : Bool) (m : Byte) (s : State) :
    (raiseFlag c m s).refused = s.refused := rfl
@[simp] theorem raiseFlag_ret (c : Bool) (m : Byte) (s : State) :
    (raiseFlag c m s).ret = s.ret := rfl
@[simp] theorem raiseFlag_inputs (c : Bool) (m : Byte) (s : State) :
    (raiseFlag c m s).inputs = s.inputs := rfl
@[simp] theorem raiseFlag_turns (c : Bool) (m : Byte) (s : State) :
    (raiseFlag c m s).turns = s.turns := rfl
@[simp] theorem raiseFlag_policy (c : Bool) (m : Byte) (s : State) :
    (raiseFlag c m s).policy = s.policy := rfl
@[simp] theorem raiseFlag_draws (c : Bool) (m : Byte) (s : State) :
    (raiseFlag c m s).draws = s.draws := rfl
@[simp] theorem raiseFlag_isr (c : Bool) (m : Byte) (s : State) :
    (raiseFlag c m s).isr = if c then s.isr ||| m else s.isr := rfl

/-! ### resetController -/

@[simp] theorem resetController_params (s : State) :
    (resetController s).params = s.params := rfl
@[simp] theorem resetController_gpo (s : State) :
    (resetController s).gpo = s.gpo := rfl
@[simp] theorem resetController_ls (s : State) :
    (resetController s).ls = s.ls := rfl
@[simp] theorem resetController_framingBlocked (s : State) :
    (resetController s).framingBlocked = s.framingBlocked := rfl
@[simp] theorem resetController_env (s : State) :
    (resetController s).env = s.env := rfl
@[simp] theorem resetController_trace (s : State) :
    (resetController s).trace = s.trace := rfl
@[simp] theorem resetController_eng (s : State) :
    (resetController s).eng = s.eng := rfl
@[simp] theorem resetController_res (s : State) :
    (resetController s).res = s.res := rfl
@[simp] theorem resetController_faults (s : State) :
    (resetController s).faults = s.faults := rfl
@[simp] theorem resetController_refused (s : State) :
    (resetController s).refused = s.refused := rfl
@[simp] theorem resetController_ret (s : State) :
    (resetController s).ret = s.ret := rfl
@[simp] theorem resetController_inputs (s : State) :
    (resetController s).inputs = s.inputs := rfl
@[simp] theorem resetController_turns (s : State) :
    (resetController s).turns = s.turns := rfl
@[simp] theorem resetController_policy (s : State) :
    (resetController s).policy = s.policy := rfl
@[simp] theorem resetController_draws (s : State) :
    (resetController s).draws = s.draws := rfl
@[simp] theorem resetController_cr (s : State) :
    (resetController s).cr = 0x00000000#32 := rfl
@[simp] theorem resetController_isr (s : State) :
    (resetController s).isr = s.params.isrReset := rfl
@[simp] theorem resetController_rxPirq (s : State) :
    (resetController s).rxPirq = 0#32 := rfl
@[simp] theorem resetController_txf (s : State) :
    (resetController s).txf = [] := rfl
@[simp] theorem resetController_rxf (s : State) :
    (resetController s).rxf = [] := rfl

end Sys2Proof.Machine
end

