-- ==== Sys2Proof/Laws/Ops.lean ====
section
/-! SUPPORT. One lemma per shared operation that says once what it can do: what it leaves unchanged in
every branch, and its value where the branch is known. Later proofs cite these and do not unfold the
operations. -/

namespace Sys2Proof.Machine

/-! ### recordFault -/

@[simp] theorem recordFault_params (f : Fault) (s : State) :
    (recordFault f s).params = s.params := by
  unfold recordFault; split <;> rfl
@[simp] theorem recordFault_cr (f : Fault) (s : State) :
    (recordFault f s).cr = s.cr := by
  unfold recordFault; split <;> rfl
@[simp] theorem recordFault_isr (f : Fault) (s : State) :
    (recordFault f s).isr = s.isr := by
  unfold recordFault; split <;> rfl
@[simp] theorem recordFault_rxPirq (f : Fault) (s : State) :
    (recordFault f s).rxPirq = s.rxPirq := by
  unfold recordFault; split <;> rfl
@[simp] theorem recordFault_gpo (f : Fault) (s : State) :
    (recordFault f s).gpo = s.gpo := by
  unfold recordFault; split <;> rfl
@[simp] theorem recordFault_txf (f : Fault) (s : State) :
    (recordFault f s).txf = s.txf := by
  unfold recordFault; split <;> rfl
@[simp] theorem recordFault_rxf (f : Fault) (s : State) :
    (recordFault f s).rxf = s.rxf := by
  unfold recordFault; split <;> rfl
@[simp] theorem recordFault_ls (f : Fault) (s : State) :
    (recordFault f s).ls = s.ls := by
  unfold recordFault; split <;> rfl
@[simp] theorem recordFault_framingBlocked (f : Fault) (s : State) :
    (recordFault f s).framingBlocked = s.framingBlocked := by
  unfold recordFault; split <;> rfl
@[simp] theorem recordFault_env (f : Fault) (s : State) :
    (recordFault f s).env = s.env := by
  unfold recordFault; split <;> rfl
@[simp] theorem recordFault_trace (f : Fault) (s : State) :
    (recordFault f s).trace = s.trace := by
  unfold recordFault; split <;> rfl
@[simp] theorem recordFault_eng (f : Fault) (s : State) :
    (recordFault f s).eng = s.eng := by
  unfold recordFault; split <;> rfl
@[simp] theorem recordFault_res (f : Fault) (s : State) :
    (recordFault f s).res = s.res := by
  unfold recordFault; split <;> rfl
@[simp] theorem recordFault_refused (f : Fault) (s : State) :
    (recordFault f s).refused = s.refused := by
  unfold recordFault; split <;> rfl
@[simp] theorem recordFault_ret (f : Fault) (s : State) :
    (recordFault f s).ret = s.ret := by
  unfold recordFault; split <;> rfl
@[simp] theorem recordFault_inputs (f : Fault) (s : State) :
    (recordFault f s).inputs = s.inputs := by
  unfold recordFault; split <;> rfl
@[simp] theorem recordFault_turns (f : Fault) (s : State) :
    (recordFault f s).turns = s.turns := by
  unfold recordFault; split <;> rfl
@[simp] theorem recordFault_policy (f : Fault) (s : State) :
    (recordFault f s).policy = s.policy := by
  unfold recordFault; split <;> rfl
@[simp] theorem recordFault_draws (f : Fault) (s : State) :
    (recordFault f s).draws = s.draws := by
  unfold recordFault; split <;> rfl

/-- The fault is in the set afterwards, and nothing leaves it. -/
theorem mem_recordFault (f g : Fault) (s : State) :
    g ∈ (recordFault f s).faults ↔ g ∈ s.faults ∨ g = f := by
  unfold recordFault
  split
  next h => exact ⟨.inl, fun h' => h'.elim id fun e => e ▸ h⟩
  next => simp

theorem recordFault_nodup (f : Fault) (s : State) (h : s.faults.Nodup) :
    (recordFault f s).faults.Nodup := by
  unfold recordFault
  split
  next => exact h
  next hf =>
    simp only [List.nodup_append, h, List.nodup_singleton, List.mem_singleton, true_and]
    exact fun a ha b hb e => hf (hb ▸ e ▸ ha)

theorem recordFault_prefix (f : Fault) (s : State) :
    s.faults <+: (recordFault f s).faults := by
  unfold recordFault; split <;> simp

/-! ### markRefused -/

@[simp] theorem markRefused_params (r : Refusal) (s : State) :
    (markRefused r s).params = s.params := by
  unfold markRefused; split <;> rfl
@[simp] theorem markRefused_cr (r : Refusal) (s : State) :
    (markRefused r s).cr = s.cr := by
  unfold markRefused; split <;> rfl
@[simp] theorem markRefused_isr (r : Refusal) (s : State) :
    (markRefused r s).isr = s.isr := by
  unfold markRefused; split <;> rfl
@[simp] theorem markRefused_rxPirq (r : Refusal) (s : State) :
    (markRefused r s).rxPirq = s.rxPirq := by
  unfold markRefused; split <;> rfl
@[simp] theorem markRefused_gpo (r : Refusal) (s : State) :
    (markRefused r s).gpo = s.gpo := by
  unfold markRefused; split <;> rfl
@[simp] theorem markRefused_txf (r : Refusal) (s : State) :
    (markRefused r s).txf = s.txf := by
  unfold markRefused; split <;> rfl
@[simp] theorem markRefused_rxf (r : Refusal) (s : State) :
    (markRefused r s).rxf = s.rxf := by
  unfold markRefused; split <;> rfl
@[simp] theorem markRefused_ls (r : Refusal) (s : State) :
    (markRefused r s).ls = s.ls := by
  unfold markRefused; split <;> rfl
@[simp] theorem markRefused_framingBlocked (r : Refusal) (s : State) :
    (markRefused r s).framingBlocked = s.framingBlocked := by
  unfold markRefused; split <;> rfl
@[simp] theorem markRefused_env (r : Refusal) (s : State) :
    (markRefused r s).env = s.env := by
  unfold markRefused; split <;> rfl
@[simp] theorem markRefused_trace (r : Refusal) (s : State) :
    (markRefused r s).trace = s.trace := by
  unfold markRefused; split <;> rfl
@[simp] theorem markRefused_eng (r : Refusal) (s : State) :
    (markRefused r s).eng = s.eng := by
  unfold markRefused; split <;> rfl
@[simp] theorem markRefused_res (r : Refusal) (s : State) :
    (markRefused r s).res = s.res := by
  unfold markRefused; split <;> rfl
@[simp] theorem markRefused_faults (r : Refusal) (s : State) :
    (markRefused r s).faults = s.faults := by
  unfold markRefused; split <;> rfl
@[simp] theorem markRefused_ret (r : Refusal) (s : State) :
    (markRefused r s).ret = s.ret := by
  unfold markRefused; split <;> rfl
@[simp] theorem markRefused_inputs (r : Refusal) (s : State) :
    (markRefused r s).inputs = s.inputs := by
  unfold markRefused; split <;> rfl
@[simp] theorem markRefused_turns (r : Refusal) (s : State) :
    (markRefused r s).turns = s.turns := by
  unfold markRefused; split <;> rfl
@[simp] theorem markRefused_policy (r : Refusal) (s : State) :
    (markRefused r s).policy = s.policy := by
  unfold markRefused; split <;> rfl
@[simp] theorem markRefused_draws (r : Refusal) (s : State) :
    (markRefused r s).draws = s.draws := by
  unfold markRefused; split <;> rfl

theorem mem_markRefused (r q : Refusal) (s : State) :
    q ∈ (markRefused r s).refused ↔ q ∈ s.refused ∨ q = r := by
  unfold markRefused
  split
  next h => exact ⟨.inl, fun h' => h'.elim id fun e => e ▸ h⟩
  next => simp

theorem markRefused_nodup (r : Refusal) (s : State) (h : s.refused.Nodup) :
    (markRefused r s).refused.Nodup := by
  unfold markRefused
  split
  next => exact h
  next hr =>
    simp only [List.nodup_append, h, List.nodup_singleton, List.mem_singleton, true_and]
    exact fun a ha b hb e => hr (hb ▸ e ▸ ha)

theorem markRefused_prefix (r : Refusal) (s : State) :
    s.refused <+: (markRefused r s).refused := by
  unfold markRefused; split <;> simp

/-! ### busAbandon -/

@[simp] theorem busAbandon_params (s : State) :
    (busAbandon s).params = s.params := by
  unfold busAbandon; cases ownBusy s.ls <;> rfl
@[simp] theorem busAbandon_cr (s : State) :
    (busAbandon s).cr = s.cr := by
  unfold busAbandon; cases ownBusy s.ls <;> rfl
@[simp] theorem busAbandon_isr (s : State) :
    (busAbandon s).isr = s.isr := by
  unfold busAbandon; cases ownBusy s.ls <;> rfl
@[simp] theorem busAbandon_rxPirq (s : State) :
    (busAbandon s).rxPirq = s.rxPirq := by
  unfold busAbandon; cases ownBusy s.ls <;> rfl
@[simp] theorem busAbandon_gpo (s : State) :
    (busAbandon s).gpo = s.gpo := by
  unfold busAbandon; cases ownBusy s.ls <;> rfl
@[simp] theorem busAbandon_txf (s : State) :
    (busAbandon s).txf = s.txf := by
  unfold busAbandon; cases ownBusy s.ls <;> rfl
@[simp] theorem busAbandon_rxf (s : State) :
    (busAbandon s).rxf = s.rxf := by
  unfold busAbandon; cases ownBusy s.ls <;> rfl
@[simp] theorem busAbandon_eng (s : State) :
    (busAbandon s).eng = s.eng := by
  unfold busAbandon; cases ownBusy s.ls <;> rfl
@[simp] theorem busAbandon_res (s : State) :
    (busAbandon s).res = s.res := by
  unfold busAbandon; cases ownBusy s.ls <;> rfl
@[simp] theorem busAbandon_faults (s : State) :
    (busAbandon s).faults = s.faults := by
  unfold busAbandon; cases ownBusy s.ls <;> rfl
@[simp] theorem busAbandon_refused (s : State) :
    (busAbandon s).refused = s.refused := by
  unfold busAbandon; cases ownBusy s.ls <;> rfl
@[simp] theorem busAbandon_ret (s : State) :
    (busAbandon s).ret = s.ret := by
  unfold busAbandon; cases ownBusy s.ls <;> rfl
@[simp] theorem busAbandon_inputs (s : State) :
    (busAbandon s).inputs = s.inputs := by
  unfold busAbandon; cases ownBusy s.ls <;> rfl
@[simp] theorem busAbandon_turns (s : State) :
    (busAbandon s).turns = s.turns := by
  unfold busAbandon; cases ownBusy s.ls <;> rfl
@[simp] theorem busAbandon_policy (s : State) :
    (busAbandon s).policy = s.policy := by
  unfold busAbandon; cases ownBusy s.ls <;> rfl
@[simp] theorem busAbandon_draws (s : State) :
    (busAbandon s).draws = s.draws := by
  unfold busAbandon; cases ownBusy s.ls <;> rfl

@[simp] theorem busAbandon_ls (s : State) : (busAbandon s).ls = .idle := rfl
@[simp] theorem busAbandon_framingBlocked (s : State) : (busAbandon s).framingBlocked = false := rfl
@[simp] theorem busAbandon_trace (s : State) :
    (busAbandon s).trace = s.trace ++ (if ownBusy s.ls then [.abort] else []) := by
  unfold busAbandon; cases ownBusy s.ls <;> simp
theorem busAbandon_env (s : State) :
    (busAbandon s).env = if ownBusy s.ls then observe .abort s.env else s.env := by
  unfold busAbandon; cases ownBusy s.ls <;> rfl

/-! ### The environment -/

@[simp] theorem observe_extBusy (ev : BusEvent) (e : Environment) :
    (observe ev e).extBusy = e.extBusy := by unfold observe; split <;> rfl
@[simp] theorem observe_acks (ev : BusEvent) (e : Environment) :
    (observe ev e).acks = e.acks := by unfold observe; split <;> rfl
@[simp] theorem observe_rbytes (ev : BusEvent) (e : Environment) :
    (observe ev e).rbytes = e.rbytes := by unfold observe; split <;> rfl
@[simp] theorem observe_losts (ev : BusEvent) (e : Environment) :
    (observe ev e).losts = e.losts := by unfold observe; split <;> rfl
@[simp] theorem observe_fails (ev : BusEvent) (e : Environment) :
    (observe ev e).fails = e.fails := by unfold observe; split <;> rfl

@[simp] theorem askAck_params (q : AckQuestion) (s : State) :
    (askAck q s).2.params = s.params := by
  unfold askAck; repeat (first | rfl | split)
@[simp] theorem askAck_cr (q : AckQuestion) (s : State) :
    (askAck q s).2.cr = s.cr := by
  unfold askAck; repeat (first | rfl | split)
@[simp] theorem askAck_isr (q : AckQuestion) (s : State) :
    (askAck q s).2.isr = s.isr := by
  unfold askAck; repeat (first | rfl | split)
@[simp] theorem askAck_rxPirq (q : AckQuestion) (s : State) :
    (askAck q s).2.rxPirq = s.rxPirq := by
  unfold askAck; repeat (first | rfl | split)
@[simp] theorem askAck_gpo (q : AckQuestion) (s : State) :
    (askAck q s).2.gpo = s.gpo := by
  unfold askAck; repeat (first | rfl | split)
@[simp] theorem askAck_txf (q : AckQuestion) (s : State) :
    (askAck q s).2.txf = s.txf := by
  unfold askAck; repeat (first | rfl | split)
@[simp] theorem askAck_rxf (q : AckQuestion) (s : State) :
    (askAck q s).2.rxf = s.rxf := by
  unfold askAck; repeat (first | rfl | split)
@[simp] theorem askAck_ls (q : AckQuestion) (s : State) :
    (askAck q s).2.ls = s.ls := by
  unfold askAck; repeat (first | rfl | split)
@[simp] theorem askAck_framingBlocked (q : AckQuestion) (s : State) :
    (askAck q s).2.framingBlocked = s.framingBlocked := by
  unfold askAck; repeat (first | rfl | split)
@[simp] theorem askAck_trace (q : AckQuestion) (s : State) :
    (askAck q s).2.trace = s.trace := by
  unfold askAck; repeat (first | rfl | split)
@[simp] theorem askAck_eng (q : AckQuestion) (s : State) :
    (askAck q s).2.eng = s.eng := by
  unfold askAck; repeat (first | rfl | split)
@[simp] theorem askAck_res (q : AckQuestion) (s : State) :
    (askAck q s).2.res = s.res := by
  unfold askAck; repeat (first | rfl | split)
@[simp] theorem askAck_faults (q : AckQuestion) (s : State) :
    (askAck q s).2.faults = s.faults := by
  unfold askAck; repeat (first | rfl | split)
@[simp] theorem askAck_refused (q : AckQuestion) (s : State) :
    (askAck q s).2.refused = s.refused := by
  unfold askAck; repeat (first | rfl | split)
@[simp] theorem askAck_ret (q : AckQuestion) (s : State) :
    (askAck q s).2.ret = s.ret := by
  unfold askAck; repeat (first | rfl | split)
@[simp] theorem askAck_inputs (q : AckQuestion) (s : State) :
    (askAck q s).2.inputs = s.inputs := by
  unfold askAck; repeat (first | rfl | split)
@[simp] theorem askAck_turns (q : AckQuestion) (s : State) :
    (askAck q s).2.turns = s.turns := by
  unfold askAck; repeat (first | rfl | split)
@[simp] theorem askAck_policy (q : AckQuestion) (s : State) :
    (askAck q s).2.policy = s.policy := by
  unfold askAck; repeat (first | rfl | split)
@[simp] theorem askAck_env_extBusy (q : AckQuestion) (s : State) :
    (askAck q s).2.env.extBusy = s.env.extBusy := by
  unfold askAck; repeat (first | rfl | split)
@[simp] theorem askAck_env_oracle (q : AckQuestion) (s : State) :
    (askAck q s).2.env.oracle = s.env.oracle := by
  unfold askAck; repeat (first | rfl | split)

@[simp] theorem askByte_params (s : State) :
    (askByte s).2.params = s.params := by
  unfold askByte; repeat (first | rfl | split)
@[simp] theorem askByte_cr (s : State) :
    (askByte s).2.cr = s.cr := by
  unfold askByte; repeat (first | rfl | split)
@[simp] theorem askByte_isr (s : State) :
    (askByte s).2.isr = s.isr := by
  unfold askByte; repeat (first | rfl | split)
@[simp] theorem askByte_rxPirq (s : State) :
    (askByte s).2.rxPirq = s.rxPirq := by
  unfold askByte; repeat (first | rfl | split)
@[simp] theorem askByte_gpo (s : State) :
    (askByte s).2.gpo = s.gpo := by
  unfold askByte; repeat (first | rfl | split)
@[simp] theorem askByte_txf (s : State) :
    (askByte s).2.txf = s.txf := by
  unfold askByte; repeat (first | rfl | split)
@[simp] theorem askByte_rxf (s : State) :
    (askByte s).2.rxf = s.rxf := by
  unfold askByte; repeat (first | rfl | split)
@[simp] theorem askByte_ls (s : State) :
    (askByte s).2.ls = s.ls := by
  unfold askByte; repeat (first | rfl | split)
@[simp] theorem askByte_framingBlocked (s : State) :
    (askByte s).2.framingBlocked = s.framingBlocked := by
  unfold askByte; repeat (first | rfl | split)
@[simp] theorem askByte_trace (s : State) :
    (askByte s).2.trace = s.trace := by
  unfold askByte; repeat (first | rfl | split)
@[simp] theorem askByte_eng (s : State) :
    (askByte s).2.eng = s.eng := by
  unfold askByte; repeat (first | rfl | split)
@[simp] theorem askByte_res (s : State) :
    (askByte s).2.res = s.res := by
  unfold askByte; repeat (first | rfl | split)
@[simp] theorem askByte_faults (s : State) :
    (askByte s).2.faults = s.faults := by
  unfold askByte; repeat (first | rfl | split)
@[simp] theorem askByte_refused (s : State) :
    (askByte s).2.refused = s.refused := by
  unfold askByte; repeat (first | rfl | split)
@[simp] theorem askByte_ret (s : State) :
    (askByte s).2.ret = s.ret := by
  unfold askByte; repeat (first | rfl | split)
@[simp] theorem askByte_inputs (s : State) :
    (askByte s).2.inputs = s.inputs := by
  unfold askByte; repeat (first | rfl | split)
@[simp] theorem askByte_turns (s : State) :
    (askByte s).2.turns = s.turns := by
  unfold askByte; repeat (first | rfl | split)
@[simp] theorem askByte_policy (s : State) :
    (askByte s).2.policy = s.policy := by
  unfold askByte; repeat (first | rfl | split)
@[simp] theorem askByte_env_extBusy (s : State) :
    (askByte s).2.env.extBusy = s.env.extBusy := by
  unfold askByte; repeat (first | rfl | split)
@[simp] theorem askByte_env_oracle (s : State) :
    (askByte s).2.env.oracle = s.env.oracle := by
  unfold askByte; repeat (first | rfl | split)

@[simp] theorem askLost_params (s : State) :
    (askLost s).2.params = s.params := by
  unfold askLost; repeat (first | rfl | split)
@[simp] theorem askLost_cr (s : State) :
    (askLost s).2.cr = s.cr := by
  unfold askLost; repeat (first | rfl | split)
@[simp] theorem askLost_isr (s : State) :
    (askLost s).2.isr = s.isr := by
  unfold askLost; repeat (first | rfl | split)
@[simp] theorem askLost_rxPirq (s : State) :
    (askLost s).2.rxPirq = s.rxPirq := by
  unfold askLost; repeat (first | rfl | split)
@[simp] theorem askLost_gpo (s : State) :
    (askLost s).2.gpo = s.gpo := by
  unfold askLost; repeat (first | rfl | split)
@[simp] theorem askLost_txf (s : State) :
    (askLost s).2.txf = s.txf := by
  unfold askLost; repeat (first | rfl | split)
@[simp] theorem askLost_rxf (s : State) :
    (askLost s).2.rxf = s.rxf := by
  unfold askLost; repeat (first | rfl | split)
@[simp] theorem askLost_ls (s : State) :
    (askLost s).2.ls = s.ls := by
  unfold askLost; repeat (first | rfl | split)
@[simp] theorem askLost_framingBlocked (s : State) :
    (askLost s).2.framingBlocked = s.framingBlocked := by
  unfold askLost; repeat (first | rfl | split)
@[simp] theorem askLost_trace (s : State) :
    (askLost s).2.trace = s.trace := by
  unfold askLost; repeat (first | rfl | split)
@[simp] theorem askLost_eng (s : State) :
    (askLost s).2.eng = s.eng := by
  unfold askLost; repeat (first | rfl | split)
@[simp] theorem askLost_res (s : State) :
    (askLost s).2.res = s.res := by
  unfold askLost; repeat (first | rfl | split)
@[simp] theorem askLost_faults (s : State) :
    (askLost s).2.faults = s.faults := by
  unfold askLost; repeat (first | rfl | split)
@[simp] theorem askLost_refused (s : State) :
    (askLost s).2.refused = s.refused := by
  unfold askLost; repeat (first | rfl | split)
@[simp] theorem askLost_ret (s : State) :
    (askLost s).2.ret = s.ret := by
  unfold askLost; repeat (first | rfl | split)
@[simp] theorem askLost_inputs (s : State) :
    (askLost s).2.inputs = s.inputs := by
  unfold askLost; repeat (first | rfl | split)
@[simp] theorem askLost_turns (s : State) :
    (askLost s).2.turns = s.turns := by
  unfold askLost; repeat (first | rfl | split)
@[simp] theorem askLost_policy (s : State) :
    (askLost s).2.policy = s.policy := by
  unfold askLost; repeat (first | rfl | split)
@[simp] theorem askLost_env_extBusy (s : State) :
    (askLost s).2.env.extBusy = s.env.extBusy := by
  unfold askLost; repeat (first | rfl | split)
@[simp] theorem askLost_env_oracle (s : State) :
    (askLost s).2.env.oracle = s.env.oracle := by
  unfold askLost; repeat (first | rfl | split)

@[simp] theorem askFail_params (s : State) :
    (askFail s).2.params = s.params := by
  unfold askFail; repeat (first | rfl | split)
@[simp] theorem askFail_cr (s : State) :
    (askFail s).2.cr = s.cr := by
  unfold askFail; repeat (first | rfl | split)
@[simp] theorem askFail_isr (s : State) :
    (askFail s).2.isr = s.isr := by
  unfold askFail; repeat (first | rfl | split)
@[simp] theorem askFail_rxPirq (s : State) :
    (askFail s).2.rxPirq = s.rxPirq := by
  unfold askFail; repeat (first | rfl | split)
@[simp] theorem askFail_gpo (s : State) :
    (askFail s).2.gpo = s.gpo := by
  unfold askFail; repeat (first | rfl | split)
@[simp] theorem askFail_txf (s : State) :
    (askFail s).2.txf = s.txf := by
  unfold askFail; repeat (first | rfl | split)
@[simp] theorem askFail_rxf (s : State) :
    (askFail s).2.rxf = s.rxf := by
  unfold askFail; repeat (first | rfl | split)
@[simp] theorem askFail_ls (s : State) :
    (askFail s).2.ls = s.ls := by
  unfold askFail; repeat (first | rfl | split)
@[simp] theorem askFail_framingBlocked (s : State) :
    (askFail s).2.framingBlocked = s.framingBlocked := by
  unfold askFail; repeat (first | rfl | split)
@[simp] theorem askFail_trace (s : State) :
    (askFail s).2.trace = s.trace := by
  unfold askFail; repeat (first | rfl | split)
@[simp] theorem askFail_eng (s : State) :
    (askFail s).2.eng = s.eng := by
  unfold askFail; repeat (first | rfl | split)
@[simp] theorem askFail_res (s : State) :
    (askFail s).2.res = s.res := by
  unfold askFail; repeat (first | rfl | split)
@[simp] theorem askFail_faults (s : State) :
    (askFail s).2.faults = s.faults := by
  unfold askFail; repeat (first | rfl | split)
@[simp] theorem askFail_refused (s : State) :
    (askFail s).2.refused = s.refused := by
  unfold askFail; repeat (first | rfl | split)
@[simp] theorem askFail_ret (s : State) :
    (askFail s).2.ret = s.ret := by
  unfold askFail; repeat (first | rfl | split)
@[simp] theorem askFail_inputs (s : State) :
    (askFail s).2.inputs = s.inputs := by
  unfold askFail; repeat (first | rfl | split)
@[simp] theorem askFail_turns (s : State) :
    (askFail s).2.turns = s.turns := by
  unfold askFail; repeat (first | rfl | split)
@[simp] theorem askFail_policy (s : State) :
    (askFail s).2.policy = s.policy := by
  unfold askFail; repeat (first | rfl | split)
@[simp] theorem askFail_env_extBusy (s : State) :
    (askFail s).2.env.extBusy = s.env.extBusy := by
  unfold askFail; repeat (first | rfl | split)
@[simp] theorem askFail_env_oracle (s : State) :
    (askFail s).2.env.oracle = s.env.oracle := by
  unfold askFail; repeat (first | rfl | split)

/-- With ACCESS_CAN_FAIL = false no access fails and nothing is asked (60_exceptions.md R257). -/
theorem askFail_of_cannot (s : State) (h : s.params.accessCanFail = false) :
    askFail s = (false, s) := by simp [askFail, h]

/-- With MULTI_MASTER = false arbitration is never lost (45_bus_side.md R219). -/
theorem askLost_of_single (s : State) (h : s.params.multiMaster = false) :
    askLost s = (false, s) := by simp [askLost, h]

theorem askAck_scripted (q : AckQuestion) (s : State) (a : Bool) (rest : List Bool)
    (h : s.env.acks = a :: rest) :
    askAck q s = (a, { s with env := { s.env with acks := rest } }) := by simp [askAck, h]

theorem askByte_scripted (s : State) (b : Byte) (rest : List Byte)
    (h : s.env.rbytes = b :: rest) :
    askByte s = (b, { s with env := { s.env with rbytes := rest } }) := by simp [askByte, h]

/-! ### The register port -/

@[simp] theorem writeCr_eng (w : Word) (s : State) : (writeCr w s).eng = s.eng := by
  unfold writeCr; dsimp only; split <;> simp
@[simp] theorem writeCr_res (w : Word) (s : State) : (writeCr w s).res = s.res := by
  unfold writeCr; dsimp only; split <;> simp
@[simp] theorem writeCr_ret (w : Word) (s : State) : (writeCr w s).ret = s.ret := by
  unfold writeCr; dsimp only; split <;> simp
@[simp] theorem writeCr_inputs (w : Word) (s : State) : (writeCr w s).inputs = s.inputs := by
  unfold writeCr; dsimp only; split <;> simp
@[simp] theorem writeCr_turns (w : Word) (s : State) : (writeCr w s).turns = s.turns := by
  unfold writeCr; dsimp only; split <;> simp
@[simp] theorem writeCr_policy (w : Word) (s : State) : (writeCr w s).policy = s.policy := by
  unfold writeCr; dsimp only; split <;> simp
@[simp] theorem writeCr_params (w : Word) (s : State) : (writeCr w s).params = s.params := by
  unfold writeCr; dsimp only; split <;> simp
@[simp] theorem writeCr_isr (w : Word) (s : State) : (writeCr w s).isr = s.isr := by
  unfold writeCr; dsimp only; split <;> simp
@[simp] theorem writeCr_rxPirq (w : Word) (s : State) : (writeCr w s).rxPirq = s.rxPirq := by
  unfold writeCr; dsimp only; split <;> simp
@[simp] theorem writeCr_gpo (w : Word) (s : State) : (writeCr w s).gpo = s.gpo := by
  unfold writeCr; dsimp only; split <;> simp
@[simp] theorem writeCr_rxf (w : Word) (s : State) : (writeCr w s).rxf = s.rxf := by
  unfold writeCr; dsimp only; split <;> simp
@[simp] theorem writeCr_faults (w : Word) (s : State) : (writeCr w s).faults = s.faults := by
  unfold writeCr; dsimp only; split <;> simp
@[simp] theorem writeCr_refused (w : Word) (s : State) : (writeCr w s).refused = s.refused := by
  unfold writeCr; dsimp only; split <;> simp
@[simp] theorem writeCr_draws (w : Word) (s : State) : (writeCr w s).draws = s.draws := by
  unfold writeCr; dsimp only; split <;> simp
@[simp] theorem writeCr_cr (w : Word) (s : State) : (writeCr w s).cr = w := by
  unfold writeCr; dsimp only; split <;> simp
@[simp] theorem writeCr_txf (w : Word) (s : State) :
    (writeCr w s).txf = if crTxrst w then [] else s.txf := by
  unfold writeCr; dsimp only; split <;> simp

/-- EN does not go from 1 to 0: the line, the trace and the environment are left alone (R122). -/
theorem writeCr_keeps (w : Word) (s : State) (h : (crEn s.cr && !crEn w) = false) :
    writeCr w s = { s with cr := w, txf := if crTxrst w then [] else s.txf } := by
  simp [writeCr, h]

/-- EN goes from 1 to 0: the transfer is abandoned (R122, R223). -/
theorem writeCr_abandons (w : Word) (s : State) (h : (crEn s.cr && !crEn w) = true) :
    writeCr w s = busAbandon { s with cr := w, txf := if crTxrst w then [] else s.txf } := by
  simp [writeCr, h]

/-- All that a write of the control register does. -/
theorem writeCr_eq (w : Word) (s : State) : writeCr w s = { s with
    cr := w
    txf := if crTxrst w then [] else s.txf
    ls := if crEn s.cr && !crEn w then .idle else s.ls
    framingBlocked := if crEn s.cr && !crEn w then false else s.framingBlocked
    trace := if crEn s.cr && !crEn w && ownBusy s.ls then s.trace ++ [.abort] else s.trace
    env := if crEn s.cr && !crEn w && ownBusy s.ls then observe .abort s.env else s.env } := by
  unfold writeCr busAbandon
  dsimp only
  cases crEn s.cr && !crEn w
  · rfl
  · cases ownBusy s.ls <;> rfl

@[simp] theorem writeTxFifo_eng (w : Word) (s : State) : (writeTxFifo w s).eng = s.eng := by
  unfold writeTxFifo; split; rfl; split <;> simp
@[simp] theorem writeTxFifo_res (w : Word) (s : State) : (writeTxFifo w s).res = s.res := by
  unfold writeTxFifo; split; rfl; split <;> simp
@[simp] theorem writeTxFifo_ret (w : Word) (s : State) : (writeTxFifo w s).ret = s.ret := by
  unfold writeTxFifo; split; rfl; split <;> simp
@[simp] theorem writeTxFifo_inputs (w : Word) (s : State) : (writeTxFifo w s).inputs = s.inputs := by
  unfold writeTxFifo; split; rfl; split <;> simp
@[simp] theorem writeTxFifo_turns (w : Word) (s : State) : (writeTxFifo w s).turns = s.turns := by
  unfold writeTxFifo; split; rfl; split <;> simp
@[simp] theorem writeTxFifo_policy (w : Word) (s : State) : (writeTxFifo w s).policy = s.policy := by
  unfold writeTxFifo; split; rfl; split <;> simp
@[simp] theorem writeTxFifo_params (w : Word) (s : State) : (writeTxFifo w s).params = s.params := by
  unfold writeTxFifo; split; rfl; split <;> simp
@[simp] theorem writeTxFifo_refused (w : Word) (s : State) : (writeTxFifo w s).refused = s.refused := by
  unfold writeTxFifo; split; rfl; split <;> simp
@[simp] theorem writeTxFifo_cr (w : Word) (s : State) : (writeTxFifo w s).cr = s.cr := by
  unfold writeTxFifo; split; rfl; split <;> simp
@[simp] theorem writeTxFifo_isr (w : Word) (s : State) : (writeTxFifo w s).isr = s.isr := by
  unfold writeTxFifo; split; rfl; split <;> simp
@[simp] theorem writeTxFifo_rxPirq (w : Word) (s : State) : (writeTxFifo w s).rxPirq = s.rxPirq := by
  unfold writeTxFifo; split; rfl; split <;> simp
@[simp] theorem writeTxFifo_gpo (w : Word) (s : State) : (writeTxFifo w s).gpo = s.gpo := by
  unfold writeTxFifo; split; rfl; split <;> simp
@[simp] theorem writeTxFifo_rxf (w : Word) (s : State) : (writeTxFifo w s).rxf = s.rxf := by
  unfold writeTxFifo; split; rfl; split <;> simp
@[simp] theorem writeTxFifo_ls (w : Word) (s : State) : (writeTxFifo w s).ls = s.ls := by
  unfold writeTxFifo; split; rfl; split <;> simp
@[simp] theorem writeTxFifo_framingBlocked (w : Word) (s : State) : (writeTxFifo w s).framingBlocked = s.framingBlocked := by
  unfold writeTxFifo; split; rfl; split <;> simp
@[simp] theorem writeTxFifo_env (w : Word) (s : State) : (writeTxFifo w s).env = s.env := by
  unfold writeTxFifo; split; rfl; split <;> simp
@[simp] theorem writeTxFifo_trace (w : Word) (s : State) : (writeTxFifo w s).trace = s.trace := by
  unfold writeTxFifo; split; rfl; split <;> simp
@[simp] theorem writeTxFifo_draws (w : Word) (s : State) : (writeTxFifo w s).draws = s.draws := by
  unfold writeTxFifo; split; rfl; split <;> simp
@[simp] theorem readRxFifo_eng (s : State) : (readRxFifo s).2.eng = s.eng := by
  unfold readRxFifo; dsimp only; split <;> simp
@[simp] theorem readRxFifo_res (s : State) : (readRxFifo s).2.res = s.res := by
  unfold readRxFifo; dsimp only; split <;> simp
@[simp] theorem readRxFifo_ret (s : State) : (readRxFifo s).2.ret = s.ret := by
  unfold readRxFifo; dsimp only; split <;> simp
@[simp] theorem readRxFifo_inputs (s : State) : (readRxFifo s).2.inputs = s.inputs := by
  unfold readRxFifo; dsimp only; split <;> simp
@[simp] theorem readRxFifo_turns (s : State) : (readRxFifo s).2.turns = s.turns := by
  unfold readRxFifo; dsimp only; split <;> simp
@[simp] theorem readRxFifo_policy (s : State) : (readRxFifo s).2.policy = s.policy := by
  unfold readRxFifo; dsimp only; split <;> simp
@[simp] theorem readRxFifo_params (s : State) : (readRxFifo s).2.params = s.params := by
  unfold readRxFifo; dsimp only; split <;> simp
@[simp] theorem readRxFifo_refused (s : State) : (readRxFifo s).2.refused = s.refused := by
  unfold readRxFifo; dsimp only; split <;> simp
@[simp] theorem readRxFifo_cr (s : State) : (readRxFifo s).2.cr = s.cr := by
  unfold readRxFifo; dsimp only; split <;> simp
@[simp] theorem readRxFifo_isr (s : State) : (readRxFifo s).2.isr = s.isr := by
  unfold readRxFifo; dsimp only; split <;> simp
@[simp] theorem readRxFifo_rxPirq (s : State) : (readRxFifo s).2.rxPirq = s.rxPirq := by
  unfold readRxFifo; dsimp only; split <;> simp
@[simp] theorem readRxFifo_gpo (s : State) : (readRxFifo s).2.gpo = s.gpo := by
  unfold readRxFifo; dsimp only; split <;> simp
@[simp] theorem readRxFifo_txf (s : State) : (readRxFifo s).2.txf = s.txf := by
  unfold readRxFifo; dsimp only; split <;> simp
@[simp] theorem readRxFifo_ls (s : State) : (readRxFifo s).2.ls = s.ls := by
  unfold readRxFifo; dsimp only; split <;> simp
@[simp] theorem readRxFifo_framingBlocked (s : State) : (readRxFifo s).2.framingBlocked = s.framingBlocked := by
  unfold readRxFifo; dsimp only; split <;> simp
@[simp] theorem readRxFifo_env (s : State) : (readRxFifo s).2.env = s.env := by
  unfold readRxFifo; dsimp only; split <;> simp
@[simp] theorem readRxFifo_trace (s : State) : (readRxFifo s).2.trace = s.trace := by
  unfold readRxFifo; dsimp only; split <;> simp

@[simp] theorem softReset_eng (s : State) : (softReset s).eng = s.eng := by
  simp [softReset]
@[simp] theorem softReset_res (s : State) : (softReset s).res = s.res := by
  simp [softReset]
@[simp] theorem softReset_ret (s : State) : (softReset s).ret = s.ret := by
  simp [softReset]
@[simp] theorem softReset_inputs (s : State) : (softReset s).inputs = s.inputs := by
  simp [softReset]
@[simp] theorem softReset_turns (s : State) : (softReset s).turns = s.turns := by
  simp [softReset]
@[simp] theorem softReset_policy (s : State) : (softReset s).policy = s.policy := by
  simp [softReset]
@[simp] theorem softReset_params (s : State) : (softReset s).params = s.params := by
  simp [softReset]
@[simp] theorem softReset_faults (s : State) : (softReset s).faults = s.faults := by
  simp [softReset]
@[simp] theorem softReset_refused (s : State) : (softReset s).refused = s.refused := by
  simp [softReset]
@[simp] theorem softReset_draws (s : State) : (softReset s).draws = s.draws := by
  simp [softReset]
@[simp] theorem softReset_cr (s : State) : (softReset s).cr = 0x00000000#32 := by simp [softReset]
@[simp] theorem softReset_isr (s : State) : (softReset s).isr = s.params.isrReset := by
  simp [softReset]
@[simp] theorem softReset_rxPirq (s : State) : (softReset s).rxPirq = 0#32 := by simp [softReset]
@[simp] theorem softReset_txf (s : State) : (softReset s).txf = [] := by simp [softReset]
@[simp] theorem softReset_rxf (s : State) : (softReset s).rxf = [] := by simp [softReset]
@[simp] theorem softReset_ls (s : State) : (softReset s).ls = .idle := by simp [softReset]
@[simp] theorem softReset_framingBlocked (s : State) : (softReset s).framingBlocked = false := by
  simp [softReset]
@[simp] theorem softReset_gpo (s : State) : (softReset s).gpo =
    if s.params.softrClearsGpo then s.params.gpoResetValue else s.gpo := by
  simp only [softReset, busAbandon_gpo]; rfl
@[simp] theorem softReset_trace (s : State) : (softReset s).trace =
    s.trace ++ (if ownBusy s.ls then [.abort] else []) := by simp [softReset]

@[simp] theorem portWrite_eng (r : WrReg) (w : Word) (s : State) :
    (portWrite r w s).eng = s.eng := by
  cases r <;> simp [portWrite, writeSoftr]; split <;> simp
@[simp] theorem portWrite_res (r : WrReg) (w : Word) (s : State) :
    (portWrite r w s).res = s.res := by
  cases r <;> simp [portWrite, writeSoftr]; split <;> simp
@[simp] theorem portWrite_ret (r : WrReg) (w : Word) (s : State) :
    (portWrite r w s).ret = s.ret := by
  cases r <;> simp [portWrite, writeSoftr]; split <;> simp
@[simp] theorem portWrite_inputs (r : WrReg) (w : Word) (s : State) :
    (portWrite r w s).inputs = s.inputs := by
  cases r <;> simp [portWrite, writeSoftr]; split <;> simp
@[simp] theorem portWrite_turns (r : WrReg) (w : Word) (s : State) :
    (portWrite r w s).turns = s.turns := by
  cases r <;> simp [portWrite, writeSoftr]; split <;> simp
@[simp] theorem portWrite_policy (r : WrReg) (w : Word) (s : State) :
    (portWrite r w s).policy = s.policy := by
  cases r <;> simp [portWrite, writeSoftr]; split <;> simp
@[simp] theorem portWrite_params (r : WrReg) (w : Word) (s : State) :
    (portWrite r w s).params = s.params := by
  cases r <;> simp [portWrite, writeSoftr]; split <;> simp
@[simp] theorem portRead_eng (r : RdReg) (s : State) : (portRead r s).2.eng = s.eng := by
  cases r <;> simp [portRead]
@[simp] theorem portRead_res (r : RdReg) (s : State) : (portRead r s).2.res = s.res := by
  cases r <;> simp [portRead]
@[simp] theorem portRead_ret (r : RdReg) (s : State) : (portRead r s).2.ret = s.ret := by
  cases r <;> simp [portRead]
@[simp] theorem portRead_inputs (r : RdReg) (s : State) : (portRead r s).2.inputs = s.inputs := by
  cases r <;> simp [portRead]
@[simp] theorem portRead_turns (r : RdReg) (s : State) : (portRead r s).2.turns = s.turns := by
  cases r <;> simp [portRead]
@[simp] theorem portRead_policy (r : RdReg) (s : State) : (portRead r s).2.policy = s.policy := by
  cases r <;> simp [portRead]
@[simp] theorem portRead_params (r : RdReg) (s : State) : (portRead r s).2.params = s.params := by
  cases r <;> simp [portRead]
@[simp] theorem portRead_refused (r : RdReg) (s : State) : (portRead r s).2.refused = s.refused := by
  cases r <;> simp [portRead]
@[simp] theorem portRead_cr (r : RdReg) (s : State) : (portRead r s).2.cr = s.cr := by
  cases r <;> simp [portRead]
@[simp] theorem portRead_isr (r : RdReg) (s : State) : (portRead r s).2.isr = s.isr := by
  cases r <;> simp [portRead]
@[simp] theorem portRead_rxPirq (r : RdReg) (s : State) : (portRead r s).2.rxPirq = s.rxPirq := by
  cases r <;> simp [portRead]
@[simp] theorem portRead_gpo (r : RdReg) (s : State) : (portRead r s).2.gpo = s.gpo := by
  cases r <;> simp [portRead]
@[simp] theorem portRead_txf (r : RdReg) (s : State) : (portRead r s).2.txf = s.txf := by
  cases r <;> simp [portRead]
@[simp] theorem portRead_ls (r : RdReg) (s : State) : (portRead r s).2.ls = s.ls := by
  cases r <;> simp [portRead]
@[simp] theorem portRead_framingBlocked (r : RdReg) (s : State) : (portRead r s).2.framingBlocked = s.framingBlocked := by
  cases r <;> simp [portRead]
@[simp] theorem portRead_env (r : RdReg) (s : State) : (portRead r s).2.env = s.env := by
  cases r <;> simp [portRead]
@[simp] theorem portRead_trace (r : RdReg) (s : State) : (portRead r s).2.trace = s.trace := by
  cases r <;> simp [portRead]

/-- No register read but that of the receive FIFO has a side effect (20_memory.md R66). -/
theorem portRead_pure (r : RdReg) (s : State) (h : r ≠ .rxFifo) : (portRead r s).2 = s := by
  cases r <;> first | rfl | exact absurd rfl h

/-! ### One engine access -/

/-- An engine read whose access succeeds (44_transaction_engine.md R176). -/
theorem engRead_ok (r : RdReg) (k : Word → State → State) (s : State)
    (h : (askFail s).1 = false) :
    engRead r k s = k (portRead r (askFail s).2).1 (portRead r (askFail s).2).2 := by
  simp [engRead, h]

/-- An engine read whose access fails (60_exceptions.md R257). -/
theorem engRead_fails (r : RdReg) (k : Word → State → State) (s : State)
    (h : (askFail s).1 = true) :
    engRead r k s = accessFault r.offset .read (askFail s).2 := by
  simp [engRead, h]

/-- An engine write whose access succeeds. -/
theorem engWrite_ok (r : WrReg) (w : Word) (k : State → State) (s : State)
    (h : (askFail s).1 = false) :
    engWrite r w k s = k (portWrite r w (askFail s).2) := by
  simp [engWrite, h]

/-- An engine write whose access fails (60_exceptions.md R257). -/
theorem engWrite_fails (r : WrReg) (w : Word) (k : State → State) (s : State)
    (h : (askFail s).1 = true) :
    engWrite r w k s = accessFault r.offset .write (askFail s).2 := by
  simp [engWrite, h]

@[simp] theorem accessFault_params (o : BitVec 12) (d : Dir) (s : State) :
    (accessFault o d s).params = s.params := by
  simp [accessFault]
@[simp] theorem accessFault_cr (o : BitVec 12) (d : Dir) (s : State) :
    (accessFault o d s).cr = s.cr := by
  simp [accessFault]
@[simp] theorem accessFault_isr (o : BitVec 12) (d : Dir) (s : State) :
    (accessFault o d s).isr = s.isr := by
  simp [accessFault]
@[simp] theorem accessFault_rxPirq (o : BitVec 12) (d : Dir) (s : State) :
    (accessFault o d s).rxPirq = s.rxPirq := by
  simp [accessFault]
@[simp] theorem accessFault_gpo (o : BitVec 12) (d : Dir) (s : State) :
    (accessFault o d s).gpo = s.gpo := by
  simp [accessFault]
@[simp] theorem accessFault_txf (o : BitVec 12) (d : Dir) (s : State) :
    (accessFault o d s).txf = s.txf := by
  simp [accessFault]
@[simp] theorem accessFault_rxf (o : BitVec 12) (d : Dir) (s : State) :
    (accessFault o d s).rxf = s.rxf := by
  simp [accessFault]
@[simp] theorem accessFault_ls (o : BitVec 12) (d : Dir) (s : State) :
    (accessFault o d s).ls = s.ls := by
  simp [accessFault]
@[simp] theorem accessFault_framingBlocked (o : BitVec 12) (d : Dir) (s : State) :
    (accessFault o d s).framingBlocked = s.framingBlocked := by
  simp [accessFault]
@[simp] theorem accessFault_env (o : BitVec 12) (d : Dir) (s : State) :
    (accessFault o d s).env = s.env := by
  simp [accessFault]
@[simp] theorem accessFault_trace (o : BitVec 12) (d : Dir) (s : State) :
    (accessFault o d s).trace = s.trace := by
  simp [accessFault]
@[simp] theorem accessFault_refused (o : BitVec 12) (d : Dir) (s : State) :
    (accessFault o d s).refused = s.refused := by
  simp [accessFault]
@[simp] theorem accessFault_ret (o : BitVec 12) (d : Dir) (s : State) :
    (accessFault o d s).ret = s.ret := by
  simp [accessFault]
@[simp] theorem accessFault_inputs (o : BitVec 12) (d : Dir) (s : State) :
    (accessFault o d s).inputs = s.inputs := by
  simp [accessFault]
@[simp] theorem accessFault_turns (o : BitVec 12) (d : Dir) (s : State) :
    (accessFault o d s).turns = s.turns := by
  simp [accessFault]
@[simp] theorem accessFault_policy (o : BitVec 12) (d : Dir) (s : State) :
    (accessFault o d s).policy = s.policy := by
  simp [accessFault]
@[simp] theorem accessFault_draws (o : BitVec 12) (d : Dir) (s : State) :
    (accessFault o d s).draws = s.draws := by
  simp [accessFault]
@[simp] theorem accessFault_mode (o : BitVec 12) (d : Dir) (s : State) :
    (accessFault o d s).eng.mode = .faulted := by simp [accessFault]
@[simp] theorem accessFault_err (o : BitVec 12) (d : Dir) (s : State) :
    (accessFault o d s).res.err = some (.accessFault s.eng.upc o d) := by simp [accessFault]

/-! ### Commands -/

/-- A running command takes the step of its table (44_transaction_engine.md R176). -/
theorem command_runs (i : Instr) (table : State → Host.Outcome State Fault Refusal) (s : State)
    (hm : s.eng.mode = .run) (hc : s.eng.cmd = i) : command i table s = table s := by
  simp [command, hm, hc]

/-- A command presented to an Idle engine is admitted or refused (R178). -/
theorem command_admits (i : Instr) (table : State → Host.Outcome State Fault Refusal) (s : State)
    (hm : s.eng.mode = .idle) : command i table s = .next (acceptCommand i s) := by
  simp [command, hm]

/-- The step of the machine, once: it answers next exactly when no refusal stops it and the agent
whose turn it is answers next. -/
theorem step_next_iff (s t : State) : step s = .next t ↔
    stopReason s = none ∧ act (nextAgent s).1 (nextAgent s).2 = .next t := by
  unfold step stepOnce
  cases stopReason s <;> simp

end Sys2Proof.Machine
end

