-- ==== Sys2Proof/Laws/Bus.lean ====
section
/-! SUPPORT. The bus side: what each of its operations leaves unchanged, the step of an enabled bus
side, and the frame of any bus-side step. -/

namespace Sys2Proof.Machine

/-! ### emit -/


/-! ### raiseFlag -/


/-! ### popTx -/

@[simp] theorem popTx_params (s : State) :
    (popTx s).params = s.params := by
  simp [popTx]
@[simp] theorem popTx_cr (s : State) :
    (popTx s).cr = s.cr := by
  simp [popTx]
@[simp] theorem popTx_rxPirq (s : State) :
    (popTx s).rxPirq = s.rxPirq := by
  simp [popTx]
@[simp] theorem popTx_gpo (s : State) :
    (popTx s).gpo = s.gpo := by
  simp [popTx]
@[simp] theorem popTx_eng (s : State) :
    (popTx s).eng = s.eng := by
  simp [popTx]
@[simp] theorem popTx_res (s : State) :
    (popTx s).res = s.res := by
  simp [popTx]
@[simp] theorem popTx_refused (s : State) :
    (popTx s).refused = s.refused := by
  simp [popTx]
@[simp] theorem popTx_ret (s : State) :
    (popTx s).ret = s.ret := by
  simp [popTx]
@[simp] theorem popTx_inputs (s : State) :
    (popTx s).inputs = s.inputs := by
  simp [popTx]
@[simp] theorem popTx_turns (s : State) :
    (popTx s).turns = s.turns := by
  simp [popTx]
@[simp] theorem popTx_policy (s : State) :
    (popTx s).policy = s.policy := by
  simp [popTx]
@[simp] theorem popTx_rxf (s : State) :
    (popTx s).rxf = s.rxf := by
  simp [popTx]
@[simp] theorem popTx_ls (s : State) :
    (popTx s).ls = s.ls := by
  simp [popTx]
@[simp] theorem popTx_framingBlocked (s : State) :
    (popTx s).framingBlocked = s.framingBlocked := by
  simp [popTx]
@[simp] theorem popTx_faults (s : State) :
    (popTx s).faults = s.faults := by
  simp [popTx]
@[simp] theorem popTx_draws (s : State) :
    (popTx s).draws = s.draws := by
  simp [popTx]
@[simp] theorem popTx_trace (s : State) :
    (popTx s).trace = s.trace := by
  simp [popTx]
@[simp] theorem popTx_env (s : State) :
    (popTx s).env = s.env := by
  simp [popTx]

/-! ### raiseFraming -/

@[simp] theorem raiseFraming_params (e : Entry) (s : State) :
    (raiseFraming e s).params = s.params := by
  simp [raiseFraming]
@[simp] theorem raiseFraming_cr (e : Entry) (s : State) :
    (raiseFraming e s).cr = s.cr := by
  simp [raiseFraming]
@[simp] theorem raiseFraming_rxPirq (e : Entry) (s : State) :
    (raiseFraming e s).rxPirq = s.rxPirq := by
  simp [raiseFraming]
@[simp] theorem raiseFraming_gpo (e : Entry) (s : State) :
    (raiseFraming e s).gpo = s.gpo := by
  simp [raiseFraming]
@[simp] theorem raiseFraming_eng (e : Entry) (s : State) :
    (raiseFraming e s).eng = s.eng := by
  simp [raiseFraming]
@[simp] theorem raiseFraming_res (e : Entry) (s : State) :
    (raiseFraming e s).res = s.res := by
  simp [raiseFraming]
@[simp] theorem raiseFraming_refused (e : Entry) (s : State) :
    (raiseFraming e s).refused = s.refused := by
  simp [raiseFraming]
@[simp] theorem raiseFraming_ret (e : Entry) (s : State) :
    (raiseFraming e s).ret = s.ret := by
  simp [raiseFraming]
@[simp] theorem raiseFraming_inputs (e : Entry) (s : State) :
    (raiseFraming e s).inputs = s.inputs := by
  simp [raiseFraming]
@[simp] theorem raiseFraming_turns (e : Entry) (s : State) :
    (raiseFraming e s).turns = s.turns := by
  simp [raiseFraming]
@[simp] theorem raiseFraming_policy (e : Entry) (s : State) :
    (raiseFraming e s).policy = s.policy := by
  simp [raiseFraming]
@[simp] theorem raiseFraming_txf (e : Entry) (s : State) :
    (raiseFraming e s).txf = s.txf := by
  simp [raiseFraming]
@[simp] theorem raiseFraming_rxf (e : Entry) (s : State) :
    (raiseFraming e s).rxf = s.rxf := by
  simp [raiseFraming]
@[simp] theorem raiseFraming_isr (e : Entry) (s : State) :
    (raiseFraming e s).isr = s.isr := by
  simp [raiseFraming]
@[simp] theorem raiseFraming_ls (e : Entry) (s : State) :
    (raiseFraming e s).ls = s.ls := by
  simp [raiseFraming]
@[simp] theorem raiseFraming_draws (e : Entry) (s : State) :
    (raiseFraming e s).draws = s.draws := by
  simp [raiseFraming]
@[simp] theorem raiseFraming_trace (e : Entry) (s : State) :
    (raiseFraming e s).trace = s.trace := by
  simp [raiseFraming]
@[simp] theorem raiseFraming_env (e : Entry) (s : State) :
    (raiseFraming e s).env = s.env := by
  simp [raiseFraming]

/-! ### notAcknowledged -/

@[simp] theorem notAcknowledged_params (s : State) :
    (notAcknowledged s).params = s.params := by
  simp [notAcknowledged]
@[simp] theorem notAcknowledged_cr (s : State) :
    (notAcknowledged s).cr = s.cr := by
  simp [notAcknowledged]
@[simp] theorem notAcknowledged_rxPirq (s : State) :
    (notAcknowledged s).rxPirq = s.rxPirq := by
  simp [notAcknowledged]
@[simp] theorem notAcknowledged_gpo (s : State) :
    (notAcknowledged s).gpo = s.gpo := by
  simp [notAcknowledged]
@[simp] theorem notAcknowledged_eng (s : State) :
    (notAcknowledged s).eng = s.eng := by
  simp [notAcknowledged]
@[simp] theorem notAcknowledged_res (s : State) :
    (notAcknowledged s).res = s.res := by
  simp [notAcknowledged]
@[simp] theorem notAcknowledged_refused (s : State) :
    (notAcknowledged s).refused = s.refused := by
  simp [notAcknowledged]
@[simp] theorem notAcknowledged_ret (s : State) :
    (notAcknowledged s).ret = s.ret := by
  simp [notAcknowledged]
@[simp] theorem notAcknowledged_inputs (s : State) :
    (notAcknowledged s).inputs = s.inputs := by
  simp [notAcknowledged]
@[simp] theorem notAcknowledged_turns (s : State) :
    (notAcknowledged s).turns = s.turns := by
  simp [notAcknowledged]
@[simp] theorem notAcknowledged_policy (s : State) :
    (notAcknowledged s).policy = s.policy := by
  simp [notAcknowledged]
@[simp] theorem notAcknowledged_txf (s : State) :
    (notAcknowledged s).txf = s.txf := by
  simp [notAcknowledged]
@[simp] theorem notAcknowledged_rxf (s : State) :
    (notAcknowledged s).rxf = s.rxf := by
  simp [notAcknowledged]
@[simp] theorem notAcknowledged_framingBlocked (s : State) :
    (notAcknowledged s).framingBlocked = s.framingBlocked := by
  simp [notAcknowledged]
@[simp] theorem notAcknowledged_faults (s : State) :
    (notAcknowledged s).faults = s.faults := by
  simp [notAcknowledged]
@[simp] theorem notAcknowledged_draws (s : State) :
    (notAcknowledged s).draws = s.draws := by
  simp [notAcknowledged]
@[simp] theorem notAcknowledged_trace (s : State) :
    (notAcknowledged s).trace = s.trace := by
  simp [notAcknowledged]
@[simp] theorem notAcknowledged_env (s : State) :
    (notAcknowledged s).env = s.env := by
  simp [notAcknowledged]

/-! ### loseArbitration -/

@[simp] theorem loseArbitration_params (s : State) :
    (loseArbitration s).params = s.params := by
  simp [loseArbitration]
@[simp] theorem loseArbitration_cr (s : State) :
    (loseArbitration s).cr = s.cr := by
  simp [loseArbitration]
@[simp] theorem loseArbitration_rxPirq (s : State) :
    (loseArbitration s).rxPirq = s.rxPirq := by
  simp [loseArbitration]
@[simp] theorem loseArbitration_gpo (s : State) :
    (loseArbitration s).gpo = s.gpo := by
  simp [loseArbitration]
@[simp] theorem loseArbitration_eng (s : State) :
    (loseArbitration s).eng = s.eng := by
  simp [loseArbitration]
@[simp] theorem loseArbitration_res (s : State) :
    (loseArbitration s).res = s.res := by
  simp [loseArbitration]
@[simp] theorem loseArbitration_refused (s : State) :
    (loseArbitration s).refused = s.refused := by
  simp [loseArbitration]
@[simp] theorem loseArbitration_ret (s : State) :
    (loseArbitration s).ret = s.ret := by
  simp [loseArbitration]
@[simp] theorem loseArbitration_inputs (s : State) :
    (loseArbitration s).inputs = s.inputs := by
  simp [loseArbitration]
@[simp] theorem loseArbitration_turns (s : State) :
    (loseArbitration s).turns = s.turns := by
  simp [loseArbitration]
@[simp] theorem loseArbitration_policy (s : State) :
    (loseArbitration s).policy = s.policy := by
  simp [loseArbitration]
@[simp] theorem loseArbitration_txf (s : State) :
    (loseArbitration s).txf = s.txf := by
  simp [loseArbitration]
@[simp] theorem loseArbitration_rxf (s : State) :
    (loseArbitration s).rxf = s.rxf := by
  simp [loseArbitration]
@[simp] theorem loseArbitration_framingBlocked (s : State) :
    (loseArbitration s).framingBlocked = s.framingBlocked := by
  simp [loseArbitration]
@[simp] theorem loseArbitration_faults (s : State) :
    (loseArbitration s).faults = s.faults := by
  simp [loseArbitration]
@[simp] theorem loseArbitration_draws (s : State) :
    (loseArbitration s).draws = s.draws := by
  simp [loseArbitration]

/-! ### addrAcked -/

@[simp] theorem addrAcked_params (b : Byte) (stop : Bool) (s : State) :
    (addrAcked b stop s).params = s.params := by
  unfold addrAcked
  repeat' split
  all_goals simp
@[simp] theorem addrAcked_cr (b : Byte) (stop : Bool) (s : State) :
    (addrAcked b stop s).cr = s.cr := by
  unfold addrAcked
  repeat' split
  all_goals simp
@[simp] theorem addrAcked_rxPirq (b : Byte) (stop : Bool) (s : State) :
    (addrAcked b stop s).rxPirq = s.rxPirq := by
  unfold addrAcked
  repeat' split
  all_goals simp
@[simp] theorem addrAcked_gpo (b : Byte) (stop : Bool) (s : State) :
    (addrAcked b stop s).gpo = s.gpo := by
  unfold addrAcked
  repeat' split
  all_goals simp
@[simp] theorem addrAcked_eng (b : Byte) (stop : Bool) (s : State) :
    (addrAcked b stop s).eng = s.eng := by
  unfold addrAcked
  repeat' split
  all_goals simp
@[simp] theorem addrAcked_res (b : Byte) (stop : Bool) (s : State) :
    (addrAcked b stop s).res = s.res := by
  unfold addrAcked
  repeat' split
  all_goals simp
@[simp] theorem addrAcked_refused (b : Byte) (stop : Bool) (s : State) :
    (addrAcked b stop s).refused = s.refused := by
  unfold addrAcked
  repeat' split
  all_goals simp
@[simp] theorem addrAcked_ret (b : Byte) (stop : Bool) (s : State) :
    (addrAcked b stop s).ret = s.ret := by
  unfold addrAcked
  repeat' split
  all_goals simp
@[simp] theorem addrAcked_inputs (b : Byte) (stop : Bool) (s : State) :
    (addrAcked b stop s).inputs = s.inputs := by
  unfold addrAcked
  repeat' split
  all_goals simp
@[simp] theorem addrAcked_turns (b : Byte) (stop : Bool) (s : State) :
    (addrAcked b stop s).turns = s.turns := by
  unfold addrAcked
  repeat' split
  all_goals simp
@[simp] theorem addrAcked_policy (b : Byte) (stop : Bool) (s : State) :
    (addrAcked b stop s).policy = s.policy := by
  unfold addrAcked
  repeat' split
  all_goals simp
@[simp] theorem addrAcked_txf (b : Byte) (stop : Bool) (s : State) :
    (addrAcked b stop s).txf = s.txf := by
  unfold addrAcked
  repeat' split
  all_goals simp
@[simp] theorem addrAcked_rxf (b : Byte) (stop : Bool) (s : State) :
    (addrAcked b stop s).rxf = s.rxf := by
  unfold addrAcked
  repeat' split
  all_goals simp
@[simp] theorem addrAcked_isr (b : Byte) (stop : Bool) (s : State) :
    (addrAcked b stop s).isr = s.isr := by
  unfold addrAcked
  repeat' split
  all_goals simp
@[simp] theorem addrAcked_draws (b : Byte) (stop : Bool) (s : State) :
    (addrAcked b stop s).draws = s.draws := by
  unfold addrAcked
  repeat' split
  all_goals simp
@[simp] theorem addrAcked_trace (b : Byte) (stop : Bool) (s : State) :
    (addrAcked b stop s).trace = s.trace := by
  unfold addrAcked
  repeat' split
  all_goals simp
@[simp] theorem addrAcked_env (b : Byte) (stop : Bool) (s : State) :
    (addrAcked b stop s).env = s.env := by
  unfold addrAcked
  repeat' split
  all_goals simp

/-! ### addrDone -/

@[simp] theorem addrDone_params (b : Byte) (stop : Bool) (s : State) :
    (addrDone b stop s).params = s.params := by
  simp only [addrDone]
  split <;> simp
@[simp] theorem addrDone_cr (b : Byte) (stop : Bool) (s : State) :
    (addrDone b stop s).cr = s.cr := by
  simp only [addrDone]
  split <;> simp
@[simp] theorem addrDone_rxPirq (b : Byte) (stop : Bool) (s : State) :
    (addrDone b stop s).rxPirq = s.rxPirq := by
  simp only [addrDone]
  split <;> simp
@[simp] theorem addrDone_gpo (b : Byte) (stop : Bool) (s : State) :
    (addrDone b stop s).gpo = s.gpo := by
  simp only [addrDone]
  split <;> simp
@[simp] theorem addrDone_eng (b : Byte) (stop : Bool) (s : State) :
    (addrDone b stop s).eng = s.eng := by
  simp only [addrDone]
  split <;> simp
@[simp] theorem addrDone_res (b : Byte) (stop : Bool) (s : State) :
    (addrDone b stop s).res = s.res := by
  simp only [addrDone]
  split <;> simp
@[simp] theorem addrDone_refused (b : Byte) (stop : Bool) (s : State) :
    (addrDone b stop s).refused = s.refused := by
  simp only [addrDone]
  split <;> simp
@[simp] theorem addrDone_ret (b : Byte) (stop : Bool) (s : State) :
    (addrDone b stop s).ret = s.ret := by
  simp only [addrDone]
  split <;> simp
@[simp] theorem addrDone_inputs (b : Byte) (stop : Bool) (s : State) :
    (addrDone b stop s).inputs = s.inputs := by
  simp only [addrDone]
  split <;> simp
@[simp] theorem addrDone_turns (b : Byte) (stop : Bool) (s : State) :
    (addrDone b stop s).turns = s.turns := by
  simp only [addrDone]
  split <;> simp
@[simp] theorem addrDone_policy (b : Byte) (stop : Bool) (s : State) :
    (addrDone b stop s).policy = s.policy := by
  simp only [addrDone]
  split <;> simp
@[simp] theorem addrDone_txf (b : Byte) (stop : Bool) (s : State) :
    (addrDone b stop s).txf = s.txf := by
  simp only [addrDone]
  split <;> simp
@[simp] theorem addrDone_rxf (b : Byte) (stop : Bool) (s : State) :
    (addrDone b stop s).rxf = s.rxf := by
  simp only [addrDone]
  split <;> simp

/-! ### dataDone -/

@[simp] theorem dataDone_params (b : Byte) (stop : Bool) (s : State) :
    (dataDone b stop s).params = s.params := by
  simp only [dataDone]
  split <;> simp
@[simp] theorem dataDone_cr (b : Byte) (stop : Bool) (s : State) :
    (dataDone b stop s).cr = s.cr := by
  simp only [dataDone]
  split <;> simp
@[simp] theorem dataDone_rxPirq (b : Byte) (stop : Bool) (s : State) :
    (dataDone b stop s).rxPirq = s.rxPirq := by
  simp only [dataDone]
  split <;> simp
@[simp] theorem dataDone_gpo (b : Byte) (stop : Bool) (s : State) :
    (dataDone b stop s).gpo = s.gpo := by
  simp only [dataDone]
  split <;> simp
@[simp] theorem dataDone_eng (b : Byte) (stop : Bool) (s : State) :
    (dataDone b stop s).eng = s.eng := by
  simp only [dataDone]
  split <;> simp
@[simp] theorem dataDone_res (b : Byte) (stop : Bool) (s : State) :
    (dataDone b stop s).res = s.res := by
  simp only [dataDone]
  split <;> simp
@[simp] theorem dataDone_refused (b : Byte) (stop : Bool) (s : State) :
    (dataDone b stop s).refused = s.refused := by
  simp only [dataDone]
  split <;> simp
@[simp] theorem dataDone_ret (b : Byte) (stop : Bool) (s : State) :
    (dataDone b stop s).ret = s.ret := by
  simp only [dataDone]
  split <;> simp
@[simp] theorem dataDone_inputs (b : Byte) (stop : Bool) (s : State) :
    (dataDone b stop s).inputs = s.inputs := by
  simp only [dataDone]
  split <;> simp
@[simp] theorem dataDone_turns (b : Byte) (stop : Bool) (s : State) :
    (dataDone b stop s).turns = s.turns := by
  simp only [dataDone]
  split <;> simp
@[simp] theorem dataDone_policy (b : Byte) (stop : Bool) (s : State) :
    (dataDone b stop s).policy = s.policy := by
  simp only [dataDone]
  split <;> simp
@[simp] theorem dataDone_txf (b : Byte) (stop : Bool) (s : State) :
    (dataDone b stop s).txf = s.txf := by
  simp only [dataDone]
  split <;> simp
@[simp] theorem dataDone_rxf (b : Byte) (stop : Bool) (s : State) :
    (dataDone b stop s).rxf = s.rxf := by
  simp only [dataDone]
  split <;> simp
@[simp] theorem dataDone_framingBlocked (b : Byte) (stop : Bool) (s : State) :
    (dataDone b stop s).framingBlocked = s.framingBlocked := by
  simp only [dataDone]
  split <;> simp
@[simp] theorem dataDone_faults (b : Byte) (stop : Bool) (s : State) :
    (dataDone b stop s).faults = s.faults := by
  simp only [dataDone]
  split <;> simp

/-! ### recv -/

@[simp] theorem recv_params (n : Nat) (s : State) :
    (recv n s).params = s.params := by
  simp [recv]
@[simp] theorem recv_cr (n : Nat) (s : State) :
    (recv n s).cr = s.cr := by
  simp [recv]
@[simp] theorem recv_rxPirq (n : Nat) (s : State) :
    (recv n s).rxPirq = s.rxPirq := by
  simp [recv]
@[simp] theorem recv_gpo (n : Nat) (s : State) :
    (recv n s).gpo = s.gpo := by
  simp [recv]
@[simp] theorem recv_eng (n : Nat) (s : State) :
    (recv n s).eng = s.eng := by
  simp [recv]
@[simp] theorem recv_res (n : Nat) (s : State) :
    (recv n s).res = s.res := by
  simp [recv]
@[simp] theorem recv_refused (n : Nat) (s : State) :
    (recv n s).refused = s.refused := by
  simp [recv]
@[simp] theorem recv_ret (n : Nat) (s : State) :
    (recv n s).ret = s.ret := by
  simp [recv]
@[simp] theorem recv_inputs (n : Nat) (s : State) :
    (recv n s).inputs = s.inputs := by
  simp [recv]
@[simp] theorem recv_turns (n : Nat) (s : State) :
    (recv n s).turns = s.turns := by
  simp [recv]
@[simp] theorem recv_policy (n : Nat) (s : State) :
    (recv n s).policy = s.policy := by
  simp [recv]
@[simp] theorem recv_txf (n : Nat) (s : State) :
    (recv n s).txf = s.txf := by
  simp [recv]
@[simp] theorem recv_framingBlocked (n : Nat) (s : State) :
    (recv n s).framingBlocked = s.framingBlocked := by
  simp [recv]
@[simp] theorem recv_faults (n : Nat) (s : State) :
    (recv n s).faults = s.faults := by
  simp [recv]

/-! ### stopDone -/

@[simp] theorem stopDone_params (halt : Bool) (s : State) :
    (stopDone halt s).params = s.params := by
  simp [stopDone]
@[simp] theorem stopDone_cr (halt : Bool) (s : State) :
    (stopDone halt s).cr = s.cr := by
  simp [stopDone]
@[simp] theorem stopDone_rxPirq (halt : Bool) (s : State) :
    (stopDone halt s).rxPirq = s.rxPirq := by
  simp [stopDone]
@[simp] theorem stopDone_gpo (halt : Bool) (s : State) :
    (stopDone halt s).gpo = s.gpo := by
  simp [stopDone]
@[simp] theorem stopDone_eng (halt : Bool) (s : State) :
    (stopDone halt s).eng = s.eng := by
  simp [stopDone]
@[simp] theorem stopDone_res (halt : Bool) (s : State) :
    (stopDone halt s).res = s.res := by
  simp [stopDone]
@[simp] theorem stopDone_refused (halt : Bool) (s : State) :
    (stopDone halt s).refused = s.refused := by
  simp [stopDone]
@[simp] theorem stopDone_ret (halt : Bool) (s : State) :
    (stopDone halt s).ret = s.ret := by
  simp [stopDone]
@[simp] theorem stopDone_inputs (halt : Bool) (s : State) :
    (stopDone halt s).inputs = s.inputs := by
  simp [stopDone]
@[simp] theorem stopDone_turns (halt : Bool) (s : State) :
    (stopDone halt s).turns = s.turns := by
  simp [stopDone]
@[simp] theorem stopDone_policy (halt : Bool) (s : State) :
    (stopDone halt s).policy = s.policy := by
  simp [stopDone]
@[simp] theorem stopDone_txf (halt : Bool) (s : State) :
    (stopDone halt s).txf = s.txf := by
  simp [stopDone]
@[simp] theorem stopDone_rxf (halt : Bool) (s : State) :
    (stopDone halt s).rxf = s.rxf := by
  simp [stopDone]
@[simp] theorem stopDone_framingBlocked (halt : Bool) (s : State) :
    (stopDone halt s).framingBlocked = s.framingBlocked := by
  simp [stopDone]
@[simp] theorem stopDone_faults (halt : Bool) (s : State) :
    (stopDone halt s).faults = s.faults := by
  simp [stopDone]
@[simp] theorem stopDone_draws (halt : Bool) (s : State) :
    (stopDone halt s).draws = s.draws := by
  simp [stopDone]

/-! ### Any bus-side step -/

theorem doMove_params (m : BusMove) (s : State) : (doMove m s).params = s.params := by
  cases m <;> simp [doMove, orLost] <;> split <;> simp
theorem doMove_cr (m : BusMove) (s : State) : (doMove m s).cr = s.cr := by
  cases m <;> simp [doMove, orLost] <;> split <;> simp
theorem doMove_rxPirq (m : BusMove) (s : State) : (doMove m s).rxPirq = s.rxPirq := by
  cases m <;> simp [doMove, orLost] <;> split <;> simp
theorem doMove_gpo (m : BusMove) (s : State) : (doMove m s).gpo = s.gpo := by
  cases m <;> simp [doMove, orLost] <;> split <;> simp
theorem doMove_eng (m : BusMove) (s : State) : (doMove m s).eng = s.eng := by
  cases m <;> simp [doMove, orLost] <;> split <;> simp
theorem doMove_res (m : BusMove) (s : State) : (doMove m s).res = s.res := by
  cases m <;> simp [doMove, orLost] <;> split <;> simp
theorem doMove_refused (m : BusMove) (s : State) : (doMove m s).refused = s.refused := by
  cases m <;> simp [doMove, orLost] <;> split <;> simp
theorem doMove_ret (m : BusMove) (s : State) : (doMove m s).ret = s.ret := by
  cases m <;> simp [doMove, orLost] <;> split <;> simp
theorem doMove_inputs (m : BusMove) (s : State) : (doMove m s).inputs = s.inputs := by
  cases m <;> simp [doMove, orLost] <;> split <;> simp
theorem doMove_turns (m : BusMove) (s : State) : (doMove m s).turns = s.turns := by
  cases m <;> simp [doMove, orLost] <;> split <;> simp
theorem doMove_policy (m : BusMove) (s : State) : (doMove m s).policy = s.policy := by
  cases m <;> simp [doMove, orLost] <;> split <;> simp

/-- What the bus side does in a state where it is enabled and not refused (45_bus_side.md R211). -/
theorem busStep_on (s : State) (h : BusOn s) : busStep s =
    match lineMove s with
    | none => .next s
    | some m => .next (doMove m s) := by
  obtain ⟨h1, h2, h3, h4⟩ := h
  unfold busStep busMove staticMode crEn crMsms
  rw [h1, h2, h3]
  simp only [h4, if_false]
  cases lineMove s <;> rfl

/-- Everything a bus-side step can be: nothing, the refusal mark of the static mode, or the one enabled
move. -/
theorem busStep_cases (s t : State) (h : busStep s = .next t) :
    t = s ∨ (staticMode s = true ∧ t = markRefused .staticModeNotSpecified s) ∨
      ∃ m, busMove s = some m ∧ t = doMove m s := by
  unfold busStep at h
  split at h
  · cases h
  · split at h
    next hs => exact .inr (.inl ⟨hs, by simpa using h.symm⟩)
    next =>
      split at h
      next => exact .inl (by simpa using h.symm)
      next m hm => exact .inr (.inr ⟨m, hm, by simpa using h.symm⟩)

end Sys2Proof.Machine
end

