-- ==== Sys2Proof/Laws/Memory.lean ====
section
/-! SUPPORT. The memory in canonical form: a read after a write, and every memory operation keeps the
form. -/

namespace Sys2Proof.Machine

theorem memRead_memCons (k : Nat) (v : Byte) (m : Memory) (j : Nat)
    (h : j = k → ∀ c ∈ m, k < c.1) :
    memRead (memCons k v m) j = if j = k then v else memRead m j := by
  have fresh : ∀ m : Memory, (∀ c ∈ m, k < c.1) → memRead m k = Memory.unlisted := by
    intro m
    induction m with
    | nil => intro _; rfl
    | cons c rest ih =>
      intro hm
      have hc : c.1 ≠ k := by have := hm c (by simp); omega
      simp [memRead, hc, ih fun d hd => hm d (by simp [hd])]
  unfold memCons
  split
  next hv =>
    split
    next hj => subst hj; rw [fresh m (h rfl), hv]
    next => rfl
  next =>
    by_cases hj : j = k
    · simp [memRead, hj]
    · simp [memRead, hj, Ne.symm hj]

/-- A read after a write: the byte written at its address, every other address as before. -/
theorem memRead_memWrite (m : Memory) (hm : Memory.wf m) (k j : Nat) (v : Byte) :
    memRead (memWrite m k v) j = if j = k then v else memRead m j := by
  induction m with
  | nil => exact memRead_memCons k v [] j (by simp)
  | cons c rest ih =>
    obtain ⟨a, b⟩ := c
    have ⟨hp, hv⟩ := hm
    rw [List.pairwise_cons] at hp
    have hrest : Memory.wf rest := ⟨hp.2, fun c hc => hv c (by simp [hc])⟩
    unfold memWrite
    split
    next hlt =>
      refine memRead_memCons k v _ j fun _ c hc => ?_
      rcases List.mem_cons.mp hc with rfl | hc
      · exact hlt
      · exact Nat.lt_trans hlt (hp.1 c hc)
    next hlt =>
      split
      next heq =>
        subst heq
        rw [memRead_memCons k v rest j fun _ c hc => hp.1 c hc]
        by_cases hj : j = k
        · simp [hj]
        · simp [memRead, hj, Ne.symm hj]
      next hne =>
        simp only [memRead, ih hrest]
        by_cases hj : j = a
        · subst hj; simp [Ne.symm hne]
        · simp [Ne.symm hj]

theorem mem_memWrite (m : Memory) (k : Nat) (v : Byte) (c : Host.Cell)
    (h : c ∈ memWrite m k v) : c = (k, v) ∨ c ∈ m := by
  induction m with
  | nil =>
    unfold memWrite memCons at h
    split at h <;> simp_all
  | cons d rest ih =>
    obtain ⟨a, b⟩ := d
    unfold memWrite memCons at h
    split at h
    · split at h <;> simp_all
    · split at h
      · split at h
        · exact .inr (by simp [h])
        · rcases List.mem_cons.mp h with rfl | h
          · exact .inl rfl
          · exact .inr (by simp [h])
      · rcases List.mem_cons.mp h with rfl | h
        · exact .inr (by simp)
        · exact (ih h).imp id (by simp_all)

theorem memCons_wf (k : Nat) (v : Byte) (m : Memory) (hm : Memory.wf m)
    (hk : ∀ c ∈ m, k < c.1) : Memory.wf (memCons k v m) := by
  unfold memCons
  split
  next => exact hm
  next hv =>
    refine ⟨List.pairwise_cons.mpr ⟨hk, hm.1⟩, fun c hc => ?_⟩
    rcases List.mem_cons.mp hc with rfl | hc
    · exact hv
    · exact hm.2 c hc

/-- A write keeps the canonical form. -/
theorem memWrite_wf (m : Memory) (hm : Memory.wf m) (k : Nat) (v : Byte) :
    Memory.wf (memWrite m k v) := by
  induction m with
  | nil => exact memCons_wf k v [] hm (by simp)
  | cons c rest ih =>
    obtain ⟨a, b⟩ := c
    have ⟨hp, hv⟩ := hm
    rw [List.pairwise_cons] at hp
    have hrest : Memory.wf rest := ⟨hp.2, fun c hc => hv c (by simp [hc])⟩
    unfold memWrite
    split
    next hlt =>
      refine memCons_wf k v _ hm fun c hc => ?_
      rcases List.mem_cons.mp hc with rfl | hc
      · exact hlt
      · exact Nat.lt_trans hlt (hp.1 c hc)
    next hlt =>
      split
      next heq => subst heq; exact memCons_wf k v rest hrest hp.1
      next hne =>
        have ⟨ihp, ihv⟩ := ih hrest
        refine ⟨List.pairwise_cons.mpr ⟨fun c hc => ?_, ihp⟩, fun c hc => ?_⟩
        · rcases mem_memWrite rest k v c hc with rfl | hc
          · have : k ≠ a := hne
            simp only; omega
          · exact hp.1 c hc
        · rcases List.mem_cons.mp hc with rfl | hc
          · exact hv _ (by simp)
          · exact ihv c hc

/-- Every event a reference slave sees keeps its memory's canonical form. -/
theorem simObserve_wf (ev : BusEvent) (d : SimDev) (h : Memory.wf d.regs) :
    Memory.wf (simObserve ev d).regs := by
  cases ev with
  | addr b a => simp only [simObserve, simOnAddr]; split <;> exact h
  | txb b a =>
    simp only [simObserve, simOnTxb, simAdvance]
    repeat' split
    all_goals first | exact h | exact memWrite_wf _ h _ _
  | rxb b a =>
    simp only [simObserve, simOnRxb, simAdvance, simUseVolatile]
    repeat' split
    all_goals exact h
  | start | rstart | stop | abort | lost => exact h

end Sys2Proof.Machine
end

