-- ==== Sys2Proof/Laws/PerInstr.lean ====
section
/-! SUPPORT. What holds of every instruction as syntax, one lemma per constructor: the format in which
it is encoded is the one its kind has (30_encoding.md R90, R99). -/

/-- The encoding of an instruction has the format of its kind: a register-port operation is a REGOP, a
command a command word, a pure function has no encoding. -/
def Sys2Proof.Laws.EncodesUnlessPure.Statement (i : Sys2Proof.Instr) : Prop :=
  match i.kind with
  | .port => ∃ pattern data, Sys2Proof.encode i = some (.regop pattern data)
  | .command => ∃ word payload, Sys2Proof.encode i = some (.cmd word payload)
  | .pureFn => Sys2Proof.encode i = none

theorem Sys2Proof.Laws.EncodesUnlessPure.rdIsr :
    Sys2Proof.Laws.EncodesUnlessPure.Statement .rdIsr := ⟨_, _, rfl⟩

theorem Sys2Proof.Laws.EncodesUnlessPure.wrIsr (w : Sys2Proof.Word) :
    Sys2Proof.Laws.EncodesUnlessPure.Statement (.wrIsr w) := ⟨_, _, rfl⟩

theorem Sys2Proof.Laws.EncodesUnlessPure.wrSoftr (w : Sys2Proof.Word) :
    Sys2Proof.Laws.EncodesUnlessPure.Statement (.wrSoftr w) := ⟨_, _, rfl⟩

theorem Sys2Proof.Laws.EncodesUnlessPure.rdCr :
    Sys2Proof.Laws.EncodesUnlessPure.Statement .rdCr := ⟨_, _, rfl⟩

theorem Sys2Proof.Laws.EncodesUnlessPure.wrCr (w : Sys2Proof.Word) :
    Sys2Proof.Laws.EncodesUnlessPure.Statement (.wrCr w) := ⟨_, _, rfl⟩

theorem Sys2Proof.Laws.EncodesUnlessPure.rdSr :
    Sys2Proof.Laws.EncodesUnlessPure.Statement .rdSr := ⟨_, _, rfl⟩

theorem Sys2Proof.Laws.EncodesUnlessPure.wrTxFifo (w : Sys2Proof.Word) :
    Sys2Proof.Laws.EncodesUnlessPure.Statement (.wrTxFifo w) := ⟨_, _, rfl⟩

theorem Sys2Proof.Laws.EncodesUnlessPure.rdRxFifo :
    Sys2Proof.Laws.EncodesUnlessPure.Statement .rdRxFifo := ⟨_, _, rfl⟩

theorem Sys2Proof.Laws.EncodesUnlessPure.rdRxPirq :
    Sys2Proof.Laws.EncodesUnlessPure.Statement .rdRxPirq := ⟨_, _, rfl⟩

theorem Sys2Proof.Laws.EncodesUnlessPure.wrRxPirq (w : Sys2Proof.Word) :
    Sys2Proof.Laws.EncodesUnlessPure.Statement (.wrRxPirq w) := ⟨_, _, rfl⟩

theorem Sys2Proof.Laws.EncodesUnlessPure.rdGpo :
    Sys2Proof.Laws.EncodesUnlessPure.Statement .rdGpo := ⟨_, _, rfl⟩

theorem Sys2Proof.Laws.EncodesUnlessPure.wrGpo (w : Sys2Proof.Word) :
    Sys2Proof.Laws.EncodesUnlessPure.Statement (.wrGpo w) := ⟨_, _, rfl⟩

theorem Sys2Proof.Laws.EncodesUnlessPure.readStatus :
    Sys2Proof.Laws.EncodesUnlessPure.Statement .readStatus := ⟨_, _, rfl⟩

theorem Sys2Proof.Laws.EncodesUnlessPure.readInterruptStatus :
    Sys2Proof.Laws.EncodesUnlessPure.Statement .readInterruptStatus := ⟨_, _, rfl⟩

theorem Sys2Proof.Laws.EncodesUnlessPure.resetInterruptStatus :
    Sys2Proof.Laws.EncodesUnlessPure.Statement .resetInterruptStatus := ⟨_, _, rfl⟩

theorem Sys2Proof.Laws.EncodesUnlessPure.enableDevice :
    Sys2Proof.Laws.EncodesUnlessPure.Statement .enableDevice := ⟨_, _, rfl⟩

theorem Sys2Proof.Laws.EncodesUnlessPure.disableDevice :
    Sys2Proof.Laws.EncodesUnlessPure.Statement .disableDevice := ⟨_, _, rfl⟩

theorem Sys2Proof.Laws.EncodesUnlessPure.startTransfer :
    Sys2Proof.Laws.EncodesUnlessPure.Statement .startTransfer := ⟨_, _, rfl⟩

theorem Sys2Proof.Laws.EncodesUnlessPure.endTransfer :
    Sys2Proof.Laws.EncodesUnlessPure.Statement .endTransfer := ⟨_, _, rfl⟩

theorem Sys2Proof.Laws.EncodesUnlessPure.enableGeneralCall :
    Sys2Proof.Laws.EncodesUnlessPure.Statement .enableGeneralCall := ⟨_, _, rfl⟩

theorem Sys2Proof.Laws.EncodesUnlessPure.disableGeneralCall :
    Sys2Proof.Laws.EncodesUnlessPure.Statement .disableGeneralCall := ⟨_, _, rfl⟩

theorem Sys2Proof.Laws.EncodesUnlessPure.resetTxFifo :
    Sys2Proof.Laws.EncodesUnlessPure.Statement .resetTxFifo := ⟨_, _, rfl⟩

theorem Sys2Proof.Laws.EncodesUnlessPure.clearTxFifoReset :
    Sys2Proof.Laws.EncodesUnlessPure.Statement .clearTxFifoReset := ⟨_, _, rfl⟩

theorem Sys2Proof.Laws.EncodesUnlessPure.enqueueWord (byte : Sys2Proof.Byte) (isStart : Bool) (isStop : Bool) :
    Sys2Proof.Laws.EncodesUnlessPure.Statement (.enqueueWord byte isStart isStop) := ⟨_, _, rfl⟩

theorem Sys2Proof.Laws.EncodesUnlessPure.dequeueWord :
    Sys2Proof.Laws.EncodesUnlessPure.Statement .dequeueWord := ⟨_, _, rfl⟩

theorem Sys2Proof.Laws.EncodesUnlessPure.initDevice :
    Sys2Proof.Laws.EncodesUnlessPure.Statement .initDevice := ⟨_, _, rfl⟩

theorem Sys2Proof.Laws.EncodesUnlessPure.writeReg (address : Sys2Proof.Address) (count : Sys2Proof.Byte) (data : List Sys2Proof.Byte) :
    Sys2Proof.Laws.EncodesUnlessPure.Statement (.writeReg address count data) := ⟨_, _, rfl⟩

theorem Sys2Proof.Laws.EncodesUnlessPure.readReg (address : Sys2Proof.Address) (count : Sys2Proof.Byte) :
    Sys2Proof.Laws.EncodesUnlessPure.Statement (.readReg address count) := ⟨_, _, rfl⟩

theorem Sys2Proof.Laws.EncodesUnlessPure.readRegSel (address : Sys2Proof.Address) (regindex : Sys2Proof.Byte) (count : Sys2Proof.Byte) :
    Sys2Proof.Laws.EncodesUnlessPure.Statement (.readRegSel address regindex count) := ⟨_, _, rfl⟩

theorem Sys2Proof.Laws.EncodesUnlessPure.getBit (word : Sys2Proof.Word) (offset : BitVec 5) :
    Sys2Proof.Laws.EncodesUnlessPure.Statement (.getBit word offset) := rfl

theorem Sys2Proof.Laws.EncodesUnlessPure.setBit (word : Sys2Proof.Word) (offset : BitVec 5) (value : Bool) :
    Sys2Proof.Laws.EncodesUnlessPure.Statement (.setBit word offset value) := rfl

theorem Sys2Proof.Laws.EncodesUnlessPure.decodeStatus (r : Sys2Proof.Word) :
    Sys2Proof.Laws.EncodesUnlessPure.Statement (.decodeStatus r) := rfl

theorem Sys2Proof.Laws.EncodesUnlessPure.decodeISR (r : Sys2Proof.Word) :
    Sys2Proof.Laws.EncodesUnlessPure.Statement (.decodeISR r) := rfl
end

