-- ==== Sys2Proof/Laws/Step.lean ====
section
/-! SUPPORT. The schedule: no step but the taking of a turn touches the queue of turns and the policy,
and no step takes a refusal back. After that, the two scheduling premises of Safety.lean step by step. -/

namespace Sys2Proof.Machine

/-- A step that leaves the queue of turns and the policy alone and takes no refusal back. -/
structure KeepsSchedule (s t : State) : Prop where
  turns : t.turns = s.turns
  policy : t.policy = s.policy
  refused : s.refused <+: t.refused

theorem KeepsSchedule.of_eq {s t : State} (h1 : t.turns = s.turns) (h2 : t.policy = s.policy)
    (h3 : t.refused = s.refused) : KeepsSchedule s t := ⟨h1, h2, h3 ▸ List.prefix_refl _⟩
theorem KeepsSchedule.trans {s t u : State} (h : KeepsSchedule s t) (k : KeepsSchedule t u) :
    KeepsSchedule s u :=
  ⟨k.turns.trans h.turns, k.policy.trans h.policy, h.refused.trans k.refused⟩

theorem markRefused_schedule (r : Refusal) (s : State) : KeepsSchedule s (markRefused r s) :=
  ⟨by simp, by simp, markRefused_prefix r s⟩
theorem askFail_schedule (s : State) : KeepsSchedule s (askFail s).2 :=
  .of_eq (by simp) (by simp) (by simp)
theorem portWrite_schedule (r : WrReg) (w : Word) (s : State) :
    KeepsSchedule s (portWrite r w s) := by
  refine ⟨by simp, by simp, ?_⟩
  cases r <;> simp [portWrite]
  unfold writeSoftr
  split
  · simp
  · exact markRefused_prefix _ _
theorem engRead_schedule {r : RdReg} {k : Word → State → State} {s : State}
    (h : ∀ w u, KeepsSchedule u (k w u)) : KeepsSchedule s (engRead r k s) := by
  refine (askFail_schedule s).trans ?_
  unfold engRead
  dsimp only
  split
  · exact .of_eq (by simp) (by simp) (by simp)
  · exact KeepsSchedule.trans (.of_eq (by simp) (by simp) (by simp)) (h _ _)
theorem engWrite_schedule {r : WrReg} {w : Word} {k : State → State} {s : State}
    (h : ∀ u, KeepsSchedule u (k u)) : KeepsSchedule s (engWrite r w k s) := by
  refine (askFail_schedule s).trans ?_
  unfold engWrite
  dsimp only
  split
  · exact .of_eq (by simp) (by simp) (by simp)
  · exact (portWrite_schedule _ _ _).trans (h _)

theorem goto_schedule (l : Label) (s : State) : KeepsSchedule s (goto l s) := .of_eq rfl rfl rfl
theorem finish_schedule (s : State) : KeepsSchedule s (finish s) := .of_eq rfl rfl rfl

theorem hostRead_schedule {r : RdReg} {s t : State} (h : hostRead r s = .next t) :
    KeepsSchedule s t := by
  unfold hostRead at h
  split at h
  · dsimp only at h
    split at h <;> cases h <;> exact .of_eq (by simp) (by simp) (by simp)
  · cases h; exact markRefused_schedule _ _
  · cases h; exact markRefused_schedule _ _
theorem hostWrite_schedule {r : WrReg} {w : Word} {s t : State} (h : hostWrite r w s = .next t) :
    KeepsSchedule s t := by
  unfold hostWrite at h
  split at h
  · dsimp only at h
    split at h <;> cases h
    · exact .of_eq (by simp) (by simp) (by simp)
    · exact ((askFail_schedule s).trans (portWrite_schedule _ _ _)).trans (.of_eq rfl rfl rfl)
  · cases h; exact markRefused_schedule _ _
  · cases h; exact markRefused_schedule _ _

/-- A command's turn, where its step table keeps the schedule. -/
theorem command_schedule {i : Instr} {table : State → Host.Outcome State Fault Refusal} {s t : State}
    (ht : ∀ t, table s = .next t → KeepsSchedule s t) (h : command i table s = .next t) :
    KeepsSchedule s t := by
  unfold command at h
  split at h
  · cases h
    unfold acceptCommand
    split
    · exact .of_eq rfl rfl rfl
    · exact markRefused_schedule _ _
  · split at h
    · exact ht t h
    · cases h; exact markRefused_schedule _ _
  · cases h; exact markRefused_schedule _ _

theorem pollStep_schedule {l : Label} {exits : StatusWord → Bool} {leave : State → State} {s : State}
    (h : ∀ u, KeepsSchedule u (leave u)) : KeepsSchedule s (pollStep l exits leave s) :=
  engRead_schedule fun w u => by
    dsimp only
    split
    · exact KeepsSchedule.trans (t := setSt w u) (.of_eq rfl rfl rfl) (h _)
    · exact .of_eq rfl rfl rfl

theorem prologueTable_schedule {leave : State → State} {s t : State}
    (hl : ∀ u, KeepsSchedule u (leave u)) (h : prologueTable leave s = .next t) :
    KeepsSchedule s t := by
  unfold prologueTable at h
  split at h <;> cases h <;>
    first
    | exact pollStep_schedule hl
    | exact engRead_schedule fun _ _ => .of_eq rfl rfl rfl
    | exact engWrite_schedule fun _ => .of_eq rfl rfl rfl

/-- No instruction touches the schedule, and none takes a refusal back. -/
theorem exec_schedule {i : Instr} {s t : State} (h : exec i s = .next t) : KeepsSchedule s t := by
  cases i
  case rdIsr | rdCr | rdSr | rdRxFifo | rdRxPirq | rdGpo =>
    simp only [exec, execRdIsr, execRdCr, execRdSr, execRdRxFifo, execRdRxPirq, execRdGpo] at h
    exact hostRead_schedule h
  case wrIsr | wrSoftr | wrCr | wrTxFifo | wrRxPirq | wrGpo => exact hostWrite_schedule h
  case getBit | setBit | decodeStatus | decodeISR => cases h; exact .of_eq rfl rfl rfl
  case initDevice => exact command_schedule (fun _ => prologueTable_schedule finish_schedule) h
  all_goals
    refine command_schedule (fun t h => ?_) h
    simp only [readStatusTable, readInterruptStatusTable, resetInterruptStatusTable, toggleTable,
      enqueueTable, dequeueTable, writeRegTable, readRegTable, readRegSelTable] at h
    split at h <;>
      first
      | exact prologueTable_schedule (goto_schedule _) h
      | (cases h; exact pollStep_schedule (goto_schedule _))
      | (cases h; exact engRead_schedule fun _ _ => .of_eq rfl rfl rfl)
      | (cases h; exact engWrite_schedule fun _ => .of_eq rfl rfl rfl)
      | cases h

theorem hostStep_schedule {s t : State} (h : hostStep s = .next t) : KeepsSchedule s t := by
  have hp : ∀ {p u t}, presentStep p u = .next t → KeepsSchedule u t := by
    intro p u t h
    unfold presentStep at h
    split at h
    · split at h
      · exact exec_schedule h
      · cases h; exact markRefused_schedule _ _
    · cases h; exact markRefused_schedule _ _
  unfold hostStep at h
  split at h
  · cases h; exact .of_eq rfl rfl rfl
  next a rest _ =>
    refine KeepsSchedule.trans (t := { s with inputs := rest }) (.of_eq rfl rfl rfl) ?_
    unfold hostAction at h
    split at h
    · exact hp h
    · split at h
      · exact hp h
      · cases h; exact markRefused_schedule _ _
    · exact exec_schedule h
    · split at h <;> cases h
      · exact .of_eq rfl rfl rfl
      · exact .of_eq rfl rfl rfl
      · exact markRefused_schedule _ _
    · cases h; exact .of_eq (by simp [powerOnReset]) (by simp [powerOnReset]) (by simp [powerOnReset])

theorem act_schedule {a : Agent} {s t : State} (h : act a s = .next t) : KeepsSchedule s t := by
  cases a
  · exact hostStep_schedule h
  · simp only [act, engineStep] at h
    split at h
    · exact exec_schedule h
    · cases h; exact .of_eq rfl rfl rfl
  · obtain rfl | ⟨-, rfl⟩ | ⟨m, -, rfl⟩ := busStep_cases s t h
    · exact .of_eq rfl rfl rfl
    · exact markRefused_schedule _ _
    · exact .of_eq (doMove_turns m s) (doMove_policy m s) (doMove_refused m s)
  · cases h; unfold envStep; split <;> exact .of_eq rfl rfl rfl

/-- Every step takes at most one turn off the queue, keeps the policy and takes no refusal back. -/
theorem step_schedule {s t : State} (h : step s = .next t) :
    t.turns = s.turns.tail ∧ t.policy = s.policy ∧ s.refused <+: t.refused := by
  unfold step stepOnce at h
  split at h
  · cases h
  · have k := act_schedule h
    cases hs : s.turns with
    | nil =>
      simp only [hs] at k
      split at k <;> exact ⟨by simpa [hs] using k.turns, k.policy, k.refused⟩
    | cons a ts =>
      simp only [hs] at k
      exact ⟨k.turns, k.policy, k.refused⟩

/-! ### The scheduling premises -/

theorem quiescentPolls_next (n : Nat) {s t : State} (h : step s = .next t) :
    quiescentPolls (n + 1) s = (decide (QuiescentPoll s) && quiescentPolls n t) := by
  simp only [quiescentPolls, h]
theorem promptStarts_next (owed : Bool) (n : Nat) {s t : State} (h : step s = .next t) :
    promptStarts owed (n + 1) s =
      (!(owed && decide (EngineMoves s)) && promptStarts (startOwed owed s t) n t) := by
  simp only [promptStarts, h]

/-- An engine step's debt is what it leaves enabled. -/
theorem startOwed_engine (owed : Bool) {s : State} (t : State) (h : EngineMoves s) :
    startOwed owed s t = startEnabled t := if_pos h

/-- A start that is taken is no longer owed. -/
theorem startOwed_taken (owed : Bool) {s : State} (t : State) (h : (nextAgent s).1 = .bus)
    (hs : startEnabled s = true) : startOwed owed s t = false := by
  simp [startOwed, EngineMoves, h, hs]

theorem runSteps_refused (n : Nat) {s t : State} (h : runSteps n s = .next t) :
    s.refused <+: t.refused := by
  induction n generalizing s with
  | zero => cases h; exact List.prefix_refl _
  | succ n ih =>
    unfold runSteps at h
    split at h
    next hu => exact (step_schedule hu).2.2.trans (ih h)
    all_goals cases h

/-- A start can be taken only where the bus side is not quiescent. -/
theorem busMove_of_startEnabled {s : State} (h : startEnabled s = true) : (busMove s).isSome := by
  unfold startEnabled at h
  cases hb : busMove s <;> simp_all

/-- Under eager-bus, where the bus side has not been refused, the engine moves only where the bus side is
quiescent (45_bus_side.md R231). -/
theorem eager_engine_quiescent {s : State} (hp : s.policy = .eager) (ht : s.turns = [])
    (hr : Refusal.staticModeNotSpecified ∉ s.refused) (hm : EngineMoves s) : Quiescent s := by
  have h := hm.1
  simp only [nextAgent, ht, policyAgent, hp] at h
  cases hb : busWants s <;> simp_all [busWants, Quiescent]

/-- Under eager-bus a start that can be taken is taken. -/
theorem eager_takes_start {s : State} (hp : s.policy = .eager) (ht : s.turns = [])
    (hr : Refusal.staticModeNotSpecified ∉ s.refused) (hs : startEnabled s = true) :
    (nextAgent s).1 = .bus := by
  have : busWants s = true := by simp [busWants, hr, busMove_of_startEnabled hs]
  simp [nextAgent, ht, policyAgent, hp, this]

/-- "The eager-bus schedule satisfies both" premises (70_reset_and_hazards.md R297), in every run in which
the bus side is not refused; the debt that PROMPT_START carries is always a start that can be taken. -/
theorem eagerBus_meets_both (n : Nat) {owed : Bool} {s t : State} (hp : s.policy = .eager)
    (ht : s.turns = []) (ho : owed = true → startEnabled s = true) (hn : runSteps n s = .next t)
    (hr : Refusal.staticModeNotSpecified ∉ t.refused) :
    quiescentPolls n s = true ∧ promptStarts owed n s = true := by
  induction n generalizing owed s with
  | zero => exact ⟨rfl, rfl⟩
  | succ n ih =>
    unfold runSteps at hn
    split at hn
    case h_2 | h_3 => cases hn
    next u hu =>
    obtain ⟨k1, k2, k3⟩ := step_schedule hu
    have hs : Refusal.staticModeNotSpecified ∉ s.refused := fun h =>
      hr ((runSteps_refused n hn).subset (k3.subset h))
    have hq := eager_engine_quiescent hp ht hs
    have hb := eager_takes_start hp ht hs
    have ho' : startOwed owed s u = true → startEnabled u = true := by
      intro h
      by_cases hm : EngineMoves s
      · rwa [startOwed_engine owed u hm] at h
      · have hw : owed = true := by simp_all [startOwed]
        simp [startOwed_taken owed u (hb (ho hw)) (ho hw)] at h
    obtain ⟨i1, i2⟩ := ih (k2.trans hp) (by rw [k1, ht]; rfl) ho' hn
    rw [quiescentPolls_next n hu, promptStarts_next owed n hu, i1, i2]
    refine ⟨by rw [decide_eq_true (fun hm _ => hq hm)]; rfl, ?_⟩
    cases owed
    · rfl
    · have : ¬ EngineMoves s := fun hm => by simp [EngineMoves, hb (ho rfl)] at hm
      simp [this]

end Sys2Proof.Machine
end

