-- ==== Sys2Proof/Tests/Slice0.lean ====
section
/-! SUPPORT. Tests. Expected values are the spec's own: words of 30_encoding.md and 95_test_vectors.md
V30, values of V40 to V45 (the vector stands beside each test), each on a small state and one step.
After them one witness theorem for every statement with hypotheses. -/

namespace Sys2Proof.Tests

open Sys2Proof.Machine

/-- What `f` sees in the next state, if there is one. -/
def after {α : Type} (o : Host.Outcome State Fault Refusal) (f : State → α) : Option α :=
  match o with
  | .next t => some (f t)
  | .fault _ | .refused _ => none

/-- An engine at a label of an operation, everything else as after reset. -/
abbrev engineAt (i : Instr) (l : Label) : State :=
  { State.reset with eng := { Engine.reset with mode := .run, cmd := i, upc := l } }

/-! ### Well-formedness: one ill-formed term for each check (30_encoding.md R98) -/

theorem test_wf_refuses_count_zero_write : (Instr.writeReg 0x74#7 0#8 []).wf = false := by decide
theorem test_wf_refuses_payload_length : (Instr.writeReg 0x74#7 2#8 [0x10#8]).wf = false := by
  decide
theorem test_wf_refuses_count_zero_read : (Instr.readReg 0x74#7 0#8).wf = false := by decide
theorem test_wf_refuses_count_zero_select : (Instr.readRegSel 0x74#7 0#8 0#8).wf = false := by
  decide
theorem test_wf_accepts : (Instr.writeReg 0x74#7 2#8 [0x10#8, 0x11#8]).wf = true ∧
    (Instr.readReg 0x00#7 255#8).wf = true ∧ (Instr.readRegSel 0x7F#7 0xFF#8 1#8).wf = true := by
  decide

/-! ### Decoding: every constructor's word, written out from 30_encoding.md R97, R99, R100 -/

theorem test_decode_reads :
    decode (.regop 0x0020#16 0#32) = .ok .rdIsr ∧ decode (.regop 0x0100#16 0#32) = .ok .rdCr ∧
    decode (.regop 0x0104#16 0#32) = .ok .rdSr ∧
    decode (.regop 0x010C#16 0#32) = .ok .rdRxFifo ∧
    decode (.regop 0x0120#16 0#32) = .ok .rdRxPirq ∧
    decode (.regop 0x0124#16 0#32) = .ok .rdGpo := ⟨rfl, rfl, rfl, rfl, rfl, rfl⟩

theorem test_decode_writes :
    decode (.regop 0x1020#16 0xFFFFFFFF#32) = .ok (.wrIsr 0xFFFFFFFF#32) ∧
    decode (.regop 0x1040#16 0x0000000A#32) = .ok (.wrSoftr 0x0000000A#32) ∧
    decode (.regop 0x1100#16 0xDEADBE02#32) = .ok (.wrCr 0xDEADBE02#32) ∧
    decode (.regop 0x1108#16 0x000001D0#32) = .ok (.wrTxFifo 0x000001D0#32) ∧
    decode (.regop 0x1120#16 0x0000000F#32) = .ok (.wrRxPirq 0x0000000F#32) ∧
    decode (.regop 0x1124#16 0x80000001#32) = .ok (.wrGpo 0x80000001#32) :=
  ⟨rfl, rfl, rfl, rfl, rfl, rfl⟩

theorem test_decode_operand_free_commands :
    decode (.cmd 0x01000000#32 []) = .ok .readStatus ∧
    decode (.cmd 0x02000000#32 []) = .ok .readInterruptStatus ∧
    decode (.cmd 0x03000000#32 []) = .ok .resetInterruptStatus ∧
    decode (.cmd 0x21000000#32 []) = .ok .dequeueWord ∧
    decode (.cmd 0x30000000#32 []) = .ok .initDevice := ⟨rfl, rfl, rfl, rfl, rfl⟩

theorem test_decode_toggles :
    decode (.cmd 0x10000000#32 []) = .ok .enableDevice ∧
    decode (.cmd 0x11000000#32 []) = .ok .disableDevice ∧
    decode (.cmd 0x12000000#32 []) = .ok .startTransfer ∧
    decode (.cmd 0x13000000#32 []) = .ok .endTransfer ∧
    decode (.cmd 0x14000000#32 []) = .ok .enableGeneralCall ∧
    decode (.cmd 0x15000000#32 []) = .ok .disableGeneralCall ∧
    decode (.cmd 0x16000000#32 []) = .ok .resetTxFifo ∧
    decode (.cmd 0x17000000#32 []) = .ok .clearTxFifoReset :=
  ⟨rfl, rfl, rfl, rfl, rfl, rfl, rfl, rfl⟩

theorem test_decode_operands :
    decode (.cmd 0b00100000_00000001_11010000_00000000#32 []) =
      .ok (.enqueueWord 0xD0#8 true false) ∧
    decode (.cmd 0b00100000_00000010_10010010_00000000#32 []) =
      .ok (.enqueueWord 0x92#8 false true) ∧
    decode (.cmd 0b00110001_00000001_00000000_01110100#32 [0x10#8]) =
      .ok (.writeReg 0x74#7 1#8 [0x10#8]) ∧
    decode (.cmd 0b00110010_00000001_00000000_01110100#32 []) = .ok (.readReg 0x74#7 1#8) ∧
    decode (.cmd 0b00110011_00000101_00000000_01101000#32 []) =
      .ok (.readRegSel 0x68#7 0x00#8 5#8) ∧
    decode (.cmd 0b00110011_00000001_00100000_01101000#32 []) =
      .ok (.readRegSel 0x68#7 0x20#8 1#8) := ⟨rfl, rfl, rfl, rfl, rfl, rfl⟩

theorem test_pure_functions_have_no_encoding :
    encode (.getBit 0#32 0#5) = none ∧ encode (.setBit 0#32 0#5 true) = none ∧
    encode (.decodeStatus 0#32) = none ∧ encode (.decodeISR 0#32) = none :=
  ⟨rfl, rfl, rfl, rfl⟩

/-- V30.3 to V30.5. -/
theorem test_decode_refuses_regops :
    [0x1104#16, 0x0108#16, 0x0040#16, 0x110C#16, 0x0000#16, 0x0101#16, 0x0128#16].map
      (fun p => decode (.regop p 0#32)) = List.replicate 7 (.error .reservedAccess) := rfl

/-- V30.12 to V30.16. -/
theorem test_decode_refuses_commands :
    [0x20040000#32, 0x320100F4#32, 0x32018074#32, 0x31000074#32, 0x32000074#32, 0x33000074#32,
      0x99000000#32, 0x00000000#32, 0x01000001#32].map (fun w => decode (.cmd w [])) =
      List.replicate 9 (.error .badCommand) := rfl

/-- The table's numbering: the 13-bit pattern in two bytes, the command word in four. -/
theorem test_table_words : decodeTableWord 16 0x1108 = some (.wrTxFifo 0#32) ∧
    decodeTableWord 16 0x0104 = some .rdSr ∧
    decodeTableWord 32 0x31010074 = some (.writeReg 0x74#7 1#8 [0#8]) ∧
    decodeTableWord 32 0x32000074 = none := ⟨rfl, rfl, rfl, rfl⟩

theorem test_fetch_word_runs :
    after (step (State.reset.withFetchWord 32 0x30000000)) (fun t => t.eng.cmd) =
      some .initDevice ∧
    after (step (State.reset.withFetchWord 16 0x0104)) (fun t => t.ret) =
      some (.word 0x000000C0#32) := ⟨rfl, rfl⟩

/-- 20_memory.md R64, 44_transaction_engine.md R183, V30.18, V30.19: the entries of an address. -/
theorem test_address_entries :
    [addrWord 0x7F#7 false, addrWord 0x7F#7 true, addrWord 0x00#7 false, addrWord 0x00#7 true] =
      [0x1FE#32, 0x1FF#32, 0x100#32, 0x101#32] := by decide

/-! ### Register-port operations (V40) -/

/-- V40.2 -/
theorem test_wrCr : after (exec (.wrCr 0xDEADBE02#32) State.reset) (fun t => (t.cr, t.txf)) =
    some (0xDEADBE02#32, []) := rfl
/-- V40.21 -/
theorem test_wrCr_abandons :
    after (exec (.wrCr 0#32)
      { State.reset with cr := 1#32, ls := .sendData 0x10#8 true })
      (fun t => (t.cr, t.ls, t.trace)) = some (0#32, .idle, [.abort]) := rfl
/-- V40.1 -/
theorem test_rdCr : after (exec .rdCr State.reset) (fun t => t.ret) = some (.word 0#32) := rfl
/-- V40.5 -/
theorem test_rdSr_full : after (exec .rdSr { State.reset with txf := List.replicate 16 0#10 })
    (fun t => t.ret) = some (.word 0x00000060#32) := rfl
/-- V40.7 -/
theorem test_rdSr_busy : after (exec .rdSr
    { State.reset with txf := [0#10, 0#10, 0#10], rxf := [0#8, 0#8], ls := .txWait })
    (fun t => t.ret) = some (.word 0x00000004#32) := rfl
/-- V40.9 -/
theorem test_rdIsr : after (exec .rdIsr { State.reset with isr := 0x16#8 })
    (fun t => (t.ret, t.isr)) = some (.word 0x00000016#32, 0x16#8) := rfl
/-- V40.11 -/
theorem test_wrIsr : after (exec (.wrIsr 0xFFFFFFFF#32) State.reset) (fun t => t.isr) =
    some 0xFF#8 := rfl
/-- V40.12 -/
theorem test_wrTxFifo : after (exec (.wrTxFifo 0xFFFFFFFF#32) State.reset) (fun t => t.txf) =
    some [0x3FF#10] := rfl
/-- V40.14 -/
theorem test_wrTxFifo_full : after (exec (.wrTxFifo 0x210#32)
    { State.reset with txf := List.replicate 16 0#10 }) (fun t => (t.faults, t.txf.length)) =
    some ([.txOverflow 0x210#10], 16) := rfl
/-- V40.15 -/
theorem test_rdRxFifo : after (exec .rdRxFifo { State.reset with rxf := [0x54#8, 0xE4#8] })
    (fun t => t.rxf) = some [0xE4#8] := rfl
/-- V40.16 -/
theorem test_rdRxFifo_empty : after (exec .rdRxFifo State.reset) (fun t => (t.rxf, t.faults)) =
    some ([], [.rxUnderflow]) := rfl
/-- V40.17 -/
theorem test_wrRxPirq : after (exec (.wrRxPirq 0xFFFFFFF3#32) State.reset) (fun t => t.rxPirq) =
    some 3#32 := rfl
/-- V40.17 -/
theorem test_rdRxPirq : after (exec .rdRxPirq { State.reset with rxPirq := 3#32 })
    (fun t => t.ret) = some (.word 3#32) := rfl
/-- V40.18 -/
theorem test_wrSoftr : after (exec (.wrSoftr 0xA#32) { State.reset with
      cr := 0x41#32, txf := [0x201#10], rxf := [0xAA#8], isr := 0xFF#8, rxPirq := 3#32, gpo := 5#32 })
    (fun t => ((t.cr, t.isr, t.rxPirq, t.gpo), t.txf, t.rxf, t.ls)) =
    some ((0#32, 0#8, 0#32, 5#32), [], [], .idle) := rfl
/-- V40.19 -/
theorem test_wrSoftr_wrong_key : after (exec (.wrSoftr 0xFFFFFFFA#32) State.reset)
    (fun t => t.refused) = some [.badResetKey] := rfl
/-- V40.20 -/
theorem test_wrGpo : after (exec (.wrGpo 0x80000001#32) State.reset)
    (fun t => (t.gpoPin 31, t.gpoPin 0, t.gpoPin 1)) = some (true, true, false) := rfl
/-- V40.20 -/
theorem test_rdGpo : after (exec .rdGpo { State.reset with gpo := 0x80000001#32 })
    (fun t => t.ret) = some (.word 0x80000001#32) := rfl

/-! ### Bit codec and decoders (V41) -/

/-- V41.1, V41.2 -/
theorem test_getBit :
    [getBit 0x00000044#32 2#5, getBit 0x00000044#32 7#5, getBit 0x80000000#32 31#5,
      getBit 0x7FFFFFFF#32 31#5, getBit 1#32 0#5] = [true, false, true, false, true] := by decide
/-- V41.3 to V41.6 -/
theorem test_setBit :
    [setBit 0#32 0#5 true, setBit 0xFFFFFFFF#32 31#5 false, setBit 0x41#32 6#5 false,
      setBit 1#32 1#5 true, setBit (setBit 0x12345678#32 3#5 true) 3#5 false] =
    [1#32, 0x7FFFFFFF#32, 1#32, 3#32, 0x12345670#32] := by decide
/-- V41.7, V41.10 -/
theorem test_decodeStatus :
    after (exec (.decodeStatus 0xFFFFFF00#32) State.reset) (fun t => t.ret) =
      some (.status ⟨false, false, false, false, false, false, false, false⟩) ∧
    after (exec (.decodeStatus 0xC4#32) State.reset) (fun t => t.ret) =
      some (.status ⟨true, true, false, false, false, true, false, false⟩) := ⟨rfl, rfl⟩
/-- V41.13 -/
theorem test_decodeISR : after (exec (.decodeISR 0x16#32) State.reset) (fun t => t.ret) =
    some (.isrFlags ⟨false, false, false, true, false, true, true, false⟩) := rfl
/-- V41.15 -/
theorem test_readStatus : after (exec .readStatus (engineAt .readStatus .rs0))
    (fun t => (t.res.status, t.eng.mode)) = some (0xC0#8, .idle) := rfl
/-- V41.17 -/
theorem test_readInterruptStatus :
    after (exec .readInterruptStatus
      { engineAt .readInterruptStatus .ri0 with isr := 0x14#8 })
      (fun t => (t.res.isr, t.isr, t.eng.mode)) = some (0x14#8, 0x14#8, .idle) := rfl
/-- V41.16 -/
theorem test_resetInterruptStatus :
    after (execTimes 3 .resetInterruptStatus { State.reset with isr := 0x16#8 })
      (fun t => (t.isr, t.eng.tmp, t.eng.mode)) = some (0#8, 0x16#32, .idle) := rfl

/-! ### Toggles (V42) -/

/-- V42.2, V42.4, V42.6, V42.7, V42.12, V42.9, V42.11, V42.10: CR before and CR after. -/
theorem test_toggles :
    [(Instr.enableDevice, 0x42#32), (.disableDevice, 0x43#32), (.startTransfer, 0x01#32),
      (.endTransfer, 0x04#32), (.enableGeneralCall, 0xFFFF0000#32),
      (.disableGeneralCall, 0x41#32), (.clearTxFifoReset, 0x02#32), (.resetTxFifo, 0#32)].map
      (fun p => after (execTimes 3 p.1 { State.reset with cr := p.2 }) (fun t => t.cr)) =
    [some 0x43#32, some 0x42#32, some 0x05#32, some 0#32, some 0xFFFF0040#32, some 0x01#32,
      some 0#32, some 0x02#32] := rfl
/-- V42.10 -/
theorem test_resetTxFifo_flushes :
    after (execTimes 3 .resetTxFifo { State.reset with txf := [0x201#10] }) (fun t => t.txf) =
      some [] := rfl

/-! ### FIFO primitives (V43) -/

/-- V43.2 -/
theorem test_enqueueWord :
    after (exec (.enqueueWord 0x92#8 false true) (engineAt (.enqueueWord 0x92#8 false true) .eq0))
      (fun t => (t.txf, t.eng.mode)) = some ([0x292#10], .idle) := rfl
/-- V43.5 -/
theorem test_enqueueWord_full :
    after (exec (.enqueueWord 0xFF#8 true true)
      { engineAt (.enqueueWord 0xFF#8 true true) .eq0 with txf := List.replicate 16 0#10 })
      (fun t => (t.faults, t.txf.length, t.eng.mode)) =
    some ([.txOverflow 0x3FF#10], 16, .idle) := rfl
/-- V43.7 -/
theorem test_dequeueWord_empty :
    after (exec .dequeueWord (engineAt .dequeueWord .dq0)) (fun t => (t.faults, t.eng.mode)) =
      some ([.rxUnderflow], .idle) := rfl

/-! ### Transaction engine (V44) -/

/-- V44.2: INIT from a dirty state, its fifteen accesses. -/
theorem test_initDevice :
    after (execTimes 16 .initDevice { State.reset with
        cr := 0x43#32, txf := [0x201#10], rxf := [0xAA#8], isr := 0xFF#8, rxPirq := 3#32, gpo := 5#32
        ls := .txWait })
      (fun t => ((t.cr, t.isr, t.rxPirq, t.gpo), (t.txf, t.rxf, t.ls), t.trace, t.eng.mode)) =
    some ((1#32, 0#8, 15#32, 5#32), ([], [], .idle), [.abort], .idle) := rfl
/-- Program 5: on a busy bus the prologue's poll goes on. -/
theorem test_initDevice_busy :
    after (exec .initDevice { engineAt .initDevice .p14 with
        cr := 1#32, env := { Environment.reset with extBusy := true } })
      (fun t => (t.eng.upc, t.eng.mode, t.eng.st)) = some (.p14, .run, 0xC4#8) := rfl
/-- V44.3: the last entry carries the stop flag. -/
theorem test_writeReg_last_entry :
    after (exec (.writeReg 0x50#7 3#8 [0xA1#8, 0xB2#8, 0xC3#8])
      { engineAt (.writeReg 0x50#7 3#8 [0xA1#8, 0xB2#8, 0xC3#8]) .w1 with
        eng := { (engineAt (.writeReg 0x50#7 3#8 [0xA1#8, 0xB2#8, 0xC3#8]) .w1).eng with
          i := 2#8 } })
      (fun t => (t.txf, t.eng.upc)) = some ([0x2C3#10], .w2) := rfl
/-- V44.4: the failure flag by the word read at W3. -/
theorem test_writeReg_failure_flag :
    [0x14#8, 0x16#8, 0x02#8, 0xFD#8, 0x01#8, 0xFF#8, 0x00#8].map (fun v =>
      after (exec (.writeReg 0x50#7 1#8 [0#8])
        { engineAt (.writeReg 0x50#7 1#8 [0#8]) .w5 with
          eng := { (engineAt (.writeReg 0x50#7 1#8 [0#8]) .w5).eng with isr := v } })
        (fun t => t.res.fail)) =
    [some false, some true, some true, some false, some false, some true, some false] := rfl
/-- V44.7: W2 by the word read. -/
theorem test_write_exit :
    [0xC0#32, 0x40#32, 0xC4#32, 0x84#32, 0x00#32, 0x44#32, 0x04#32, 0x64#32, 0x14#32].map
      (fun w => writeExit (decodeStatus w)) =
    [true, true, true, true, true, false, false, false, false] := by decide
/-- V44.8: P14 by the word read. -/
theorem test_prologue_exit :
    [0xC0#32, 0xC3#32, 0xCB#32, 0xC4#32, 0x40#32, 0x80#32, 0x44#32, 0x00#32].map
      (fun w => prologueExit (decodeStatus w)) =
    [true, true, true, false, false, false, false, false] := by decide
/-- V44.9: G2 and S4 by the word read. -/
theorem test_receive_exit :
    [0x80#32, 0x84#32, 0x00#32, 0x94#32, 0xC0#32, 0xC4#32, 0x40#32, 0x44#32].map
      (fun w => receiveExit (decodeStatus w)) =
    [true, true, true, true, false, false, false, false] := by decide
/-- V44.10: the two entries of a plain read. -/
theorem test_readReg_entries :
    after (exec (.readReg 0x74#7 2#8) (engineAt (.readReg 0x74#7 2#8) .g0)) (fun t => t.txf) =
      some [0x1E9#10] ∧
    after (exec (.readReg 0x00#7 255#8) (engineAt (.readReg 0x00#7 255#8) .g1)) (fun t => t.txf) =
      some [0x2FF#10] := ⟨rfl, rfl⟩
/-- V44.12: nothing received, the poll goes on. -/
theorem test_readReg_waits :
    after (exec (.readReg 0x2A#7 1#8) { engineAt (.readReg 0x2A#7 1#8) .g2 with
      cr := 1#32, txf := [0x201#10], ls := .halted }) (fun t => (t.eng.upc, t.eng.st)) =
      some (.g2, 0x40#8) := rfl
/-- Program 2, command 2: four entries. -/
theorem test_readRegSel_entries :
    [Label.s0, .s1, .s2, .s3].map (fun l =>
      after (exec (.readRegSel 0x68#7 0#8 5#8) (engineAt (.readRegSel 0x68#7 0#8 5#8) l))
        (fun t => t.txf)) =
    [some [0x1D0#10], some [0x000#10], some [0x1D1#10], some [0x205#10]] := rfl
/-- V44.14: a raw access while the engine runs. -/
theorem test_concurrent :
    after (step { engineAt .initDevice .p14 with
        turns := [.host], inputs := [.present (.regop 0x1124#16 1#32)] })
      (fun t => (t.refused, t.gpo)) = some ([.concurrent], 0#32) := rfl
/-- V44.16: a failing access at W1. -/
theorem test_access_fault :
    after (exec (.writeReg 0x74#7 1#8 [0x10#8]) { engineAt (.writeReg 0x74#7 1#8 [0x10#8]) .w1 with
        params := { accessCanFail := true }, cr := 1#32, ls := .txWait
        env := { Environment.reset with fails := [true] } })
      (fun t => (t.res.err, t.eng.mode, t.cr, t.txf)) =
    some (some (.accessFault .w1 0x108#12 .write), .faulted, 1#32, []) := rfl

/-! ### Bus side (V45) -/

/-- V45.2 -/
theorem test_bus_tx_half :
    after (busStep { State.reset with cr := 1#32, txf := 0x1A0#10 :: List.replicate 8 0#10 })
      (fun t => (t.txf.length, t.isr, t.ls)) = some (8, 0x80#8, .sendAddr 0xA0#8 false) := rfl
/-- V45.3 -/
theorem test_bus_nack :
    after (busStep { State.reset with
        cr := 1#32, ls := .sendData 0x54#8 false
        env := { Environment.reset with acks := [false] } })
      (fun t => (t.trace, t.isr, t.ls)) = some ([.txb 0x54#8 false], 0x02#8, .stopping true) := rfl
/-- V45.4 -/
theorem test_bus_framing :
    after (busStep { State.reset with cr := 1#32, txf := [0x010#10] })
      (fun t => (t.faults, t.txf, t.framingBlocked)) =
    some ([.framingFault 0x010#10], [0x010#10], true) := rfl
/-- V45.9 -/
theorem test_bus_static :
    after (busStep { State.reset with cr := 0x05#32 }) (fun t => (t.refused, t.cr)) =
      some ([.staticModeNotSpecified], 0x05#32) := rfl
/-- V45.12 -/
theorem test_bus_recv :
    after (busStep { State.reset with
        cr := 1#32, ls := .rx 1, env := { Environment.reset with rbytes := [0x5A#8] } })
      (fun t => (t.rxf, t.trace, t.isr, t.ls)) =
    some ([0x5A#8], [.rxb 0x5A#8 false], 0x08#8, .stopping false) := rfl
/-- V45.14 -/
theorem test_bus_lost :
    after (busStep { State.reset with
        params := { multiMaster := true }, cr := 1#32, ls := .sendAddr 0xE8#8 false
        env := { Environment.reset with losts := [true] } })
      (fun t => (t.trace, t.isr, t.ls, t.env.extBusy)) =
    some ([.lost], 0x01#8, .halted, true) := rfl
/-- V45.10 -/
theorem test_simdev_pointer_wraps :
    let d : SimDev := { address := 0x68#7, kind := .pointer, regs := [], volatile := [],
                        ptr := 0xFF#8, selected := none, wantPtr := false }
    let e := [BusEvent.addr 0xD0#8 true, .txb 0xFF#8 true, .txb 0x77#8 true, .txb 0x88#8 true].foldl
      (fun d ev => simObserve ev d) d
    (memRead e.regs 0xFF, memRead e.regs 0, e.ptr) = (0x77#8, 0x88#8, 1#8) := by decide

/-! ### The bring-up caller (program 2, program 4, program 6) -/

/-- The placeholder literals of program 6. -/
def bringUp : BringUpParams :=
  { gpoSwitchResetBit := 0#5, gpoClkdevResetBit := 1#5, gpoAssertLevel := true
    switchAddr := 0x74#7, switchPortByte := 0x10#8, clkdevAddr := 0x68#7
    configList := [(0x00#8, [0x54#8, 0xE4#8, 0x12#8, 0x15#8, 0x92#8])]
    readyReg := 0x20#8, readyBit := 4 }

theorem test_bringUp_commands :
    [BringUpPhase.assertSwitch, .assertClkdev, .selectPort, .verifyPort,
      .writeConfig bringUp.configList, .pollReady].map (bringUpInstr bringUp 0#32) =
    [some (.wrGpo 1#32), some (.wrGpo 2#32), some (.writeReg 0x74#7 1#8 [0x10#8]),
      some (.readReg 0x74#7 1#8),
      some (.writeReg 0x68#7 6#8 [0x00#8, 0x54#8, 0xE4#8, 0x12#8, 0x15#8, 0x92#8]),
      some (.readRegSel 0x68#7 0x20#8 1#8)] := by decide

/-- "With regs[2] forced to 0x13 ... reports "Register i failed" with i = 2." -/
theorem test_bringUp_mismatch :
    bringUpNext bringUp false false (memRead [(0, 0x54#8), (1, 0xE4#8), (2, 0x13#8), (3, 0x15#8),
      (4, 0x92#8)]) (.readBack 0#8 [0x54#8, 0xE4#8, 0x12#8, 0x15#8, 0x92#8] []) =
    .aborted (.registerFailed 2) := by decide

/-! ### Witnesses: a state and operands that meet the hypotheses of each statement, each clause at the
ends of its range -/

/-- A host turn with one action. -/
abbrev hostTurn (a : HostAction) : State :=
  { State.reset with turns := [.host], inputs := [a] }

/-- A machine whose accesses can fail, the next one failing or not as `fails` says. -/
abbrev mayFail (fails : Bool) (s : State) : State :=
  { s with params := { accessCanFail := true }, env := { Environment.reset with fails := [fails] } }

theorem witness_PowerOnResetActsInAnyMode :
    let s := { hostTurn .rst with eng := (engineAt .initDevice .p14).eng, ls := .txWait }
    stopReason s = none ∧ s.turns = [.host] ∧ s.inputs = [.rst] := by decide

theorem witness_DecodeAfterEncodeIsIdentity :
    ((Instr.writeReg 0x7F#7 1#8 [0xFF#8]).wf = true ∧
      (Instr.writeReg 0x7F#7 1#8 [0xFF#8]).kind ≠ .pureFn) ∧
    ((Instr.readReg 0x00#7 255#8).wf = true ∧ (Instr.readReg 0x00#7 255#8).kind ≠ .pureFn) := by
  decide

theorem witness_EncodeAfterDecodeIsIdentity :
    decode (.cmd 0x33FFFF7F#32 []) = .ok (.readRegSel 0x7F#7 0xFF#8 255#8) ∧
    decode (.regop 0x1124#16 0xFFFFFFFF#32) = .ok (.wrGpo 0xFFFFFFFF#32) ∧
    decode (.regop 0x0104#16 1#32) = .ok .rdSr := ⟨rfl, rfl, rfl⟩

theorem witness_ReservedPatternsAreRefused :
    ∀ pattern ∈ [0x0000#16, 0x0128#16, 0x2104#16, 0xFFFF#16], pattern ∉ [0x0020#16, 0x1020#16, 0x1040#16, 0x0100#16, 0x1100#16, 0x0104#16, 0x1108#16,
      0x010C#16, 0x0120#16, 0x1120#16, 0x0124#16, 0x1124#16] := by simp

theorem witness_StepRunsPresentedInstruction :
    let s := hostTurn (.present (.cmd 0x30000000#32 []))
    stopReason s = none ∧ s.turns = [.host] ∧ s.inputs = [.present (.cmd 0x30000000#32 [])] ∧
      s.eng.mode = .idle ∧ decode (.cmd 0x30000000#32 []) = .ok .initDevice :=
  ⟨rfl, rfl, rfl, rfl, rfl⟩

theorem witness_StepRunsLatchedCommand :
    ( let s := { engineAt .readStatus .rs0 with turns := [.engine] }
      stopReason s = none ∧ s.turns = [.engine] ∧ s.eng.mode = .run) ∧
    ( let s := { State.reset with turns := [.engine] }
      stopReason s = none ∧ s.turns = [.engine] ∧ s.eng.mode ≠ .run) ∧
    ( let s := hostTurn (.call (.getBit 1#32 31#5))
      stopReason s = none ∧ s.turns = [.host] ∧ s.inputs = [.call (.getBit 1#32 31#5)]) := by
  decide

theorem witness_FetchedWordRunsNext :
    decodeTableWord 16 0x1124 = some (.wrGpo 0#32) ∧
    decodeTableWord 32 0x320100FF = none ∧
    decodeTableWord 32 0x3201007F = some (.readReg 0x7F#7 1#8) := ⟨rfl, rfl, rfl⟩

theorem witness_NamedSchedulesChooseTheMover :
    let bus := { engineAt (.readReg 0x74#7 1#8) .g2 with cr := 1#32, txf := [0x1E9#10] }
    let eng := { bus with txf := [] }
    let host := { State.reset with cr := 1#32 }
    (∀ s ∈ [bus, eng, host], stopReason s = none ∧ s.turns = [] ∧
      Refusal.staticModeNotSpecified ∉ s.refused ∧ (s.cr.getLsbD 0 && s.cr.getLsbD 2) = false ∧
      s.policy = .eager) ∧
    ¬ Quiescent bus ∧ (Quiescent eng ∧ eng.eng.mode = .run) ∧
    (Quiescent host ∧ host.eng.mode ≠ .run) ∧
    pollExit bus.eng.upc (statusNow bus) = some false ∧
    pollExit (engineAt (.readReg 0x74#7 1#8) .g1).eng.upc (statusNow bus) ≠ some false ∧
    ({ bus with policy := .lazy } : State).policy = .lazy := by decide

theorem witness_RawAccessReachesItsRegister :
    State.reset.eng.mode = .idle ∧ State.reset.params.i2cBase % 4 = 0 ∧
    (0xFFF : Nat) = State.reset.params.i2cBase + (0xFFF#12).toNat ∧
    ( let s := { State.reset with params := { i2cBase := 0x1000 } }
      s.params.i2cBase % 4 = 0 ∧ (0x1124 : Nat) = s.params.i2cBase + (0x124#12).toNat ∧
      (0xFFC : Nat) < s.params.i2cBase ∧ s.params.i2cBase + 0x124 < 0x1128 ∧ 0x1101 % 4 ≠ 0) := by
  decide

theorem witness_RefusedRequestOnlySetsTheMark :
    ( let s := hostTurn (.present (.regop 0x1104#16 0#32))
      stopReason s = none ∧ s.turns = [.host] ∧ s.inputs = [.present (.regop 0x1104#16 0#32)] ∧
      s.eng.mode = .idle ∧ decode (.regop 0x1104#16 0#32) = .error .reservedAccess) ∧
    decode (.cmd 0x32000074#32 []) = .error .badCommand := ⟨⟨rfl, rfl, rfl, rfl, rfl⟩, rfl⟩

theorem witness_SecondCallPathIsRefused :
    ∀ a ∈ [HostAction.present (.regop 0x1124#16 1#32), .access true 0x124 4 1#32,
        .access false 3 1 0#32], ∀ m ∈ [EngMode.run, .faulted],
      let s := { hostTurn a with eng := { Engine.reset with mode := m } }
      stopReason s = none ∧ s.turns = [.host] ∧ s.inputs = [a] ∧ s.eng.mode ≠ .idle := by decide

/-- The hypotheses of every statement about a register-port operation: the engine Idle and the access
not failing, on a machine whose accesses cannot fail and on one whose accesses can. -/
theorem witness_RegisterPort : ∀ s ∈ [State.reset, mayFail false State.reset],
    s.eng.mode = .idle ∧ (askFail s).1 = false := by decide

theorem witness_RegisterReadsYieldTheirRegister :
    State.reset.eng.mode = .idle ∧ (askFail State.reset).1 = false := by decide
theorem witness_StatusReadShowsTheFlags :
    State.reset.eng.mode = .idle ∧ (askFail State.reset).1 = false := by decide
theorem witness_PlainWritesReplaceTheirRegister :
    State.reset.eng.mode = .idle ∧ (askFail State.reset).1 = false := by decide

theorem witness_ControlWriteStoresFlushesAbandons :
    let s := { State.reset with cr := 1#32, ls := .rx 255 }
    s.eng.mode = .idle ∧ (askFail s).1 = false ∧
    (s.cr.getLsbD 0 = true ∧ (2#32).getLsbD 0 = false) ∧
    ¬ (s.cr.getLsbD 0 = true ∧ (3#32).getLsbD 0 = false) := by decide

theorem witness_TransmitWritePushesOneEntry :
    ( let s := { State.reset with cr := 2#32 }
      s.eng.mode = .idle ∧ (askFail s).1 = false ∧ s.cr.getLsbD 1 = true) ∧
    ( let s := { State.reset with txf := List.replicate 16 0#10 }
      s.eng.mode = .idle ∧ (askFail s).1 = false ∧ s.cr.getLsbD 1 = false ∧
        s.txf.length = s.params.txDepth) ∧
    ( let s := { State.reset with txf := List.replicate 15 0#10 }
      s.cr.getLsbD 1 = false ∧ s.txf.length ≠ s.params.txDepth) := by decide

theorem witness_ReceiveReadPopsOneByte :
    ( let s := { State.reset with rxf := [0x54#8] }
      s.eng.mode = .idle ∧ (askFail s).1 = false ∧ s.rxf = [0x54#8]) ∧
    (State.reset.eng.mode = .idle ∧ (askFail State.reset).1 = false ∧ State.reset.rxf = []) := by
  decide

theorem witness_SoftResetNeedsItsKey :
    State.reset.eng.mode = .idle ∧ (askFail State.reset).1 = false ∧
    (0xA#32 = 0x0000000A#32) ∧ 0xFFFFFFFA#32 ≠ 0x0000000A#32 := by decide

theorem witness_FailedHostAccessHasNoEffect :
    let s := mayFail true State.reset
    (Instr.rdRxFifo).kind = .port ∧ (Instr.wrCr 1#32).kind = .port ∧ s.eng.mode = .idle ∧
      (askFail s).1 = true := by decide

theorem witness_CommandsAreAdmittedWhole :
    Instr.initDevice.kind = .command ∧ Instr.initDevice.wf = true ∧
    (Instr.readReg 0#7 255#8).wf = true ∧ (Instr.readReg 0#7 0#8).kind = .command ∧
    (Instr.readReg 0#7 0#8).wf = false ∧ State.reset.eng.mode = .idle ∧
    ({ Engine.reset with mode := .faulted } : Engine).mode = .faulted ∧
    ((engineAt .initDevice .p0).eng.mode = .run ∧
      (engineAt .initDevice .p0).eng.cmd ≠ .readReg 0#7 1#8) := by decide

theorem witness_FlagCommandsStep :
    AtStep .readStatus .rs0 (engineAt .readStatus .rs0) ∧
    AtStep .readInterruptStatus .ri0 (engineAt .readInterruptStatus .ri0) ∧
    AtStep .resetInterruptStatus .ci0 (engineAt .resetInterruptStatus .ci0) ∧
    AtStep .resetInterruptStatus .ci1 (mayFail false (engineAt .resetInterruptStatus .ci1)) ∧
    FailsAt .resetInterruptStatus .ci1 (mayFail true (engineAt .resetInterruptStatus .ci1)) := by
  decide

theorem witness_ToggleStepsReadThenWrite : ∀ p ∈ toggles,
    AtStep p.1 .t0 (engineAt p.1 .t0) ∧ AtStep p.1 .t1 (engineAt p.1 .t1) ∧
    FailsAt p.1 .t0 (mayFail true (engineAt p.1 .t0)) ∧
    FailsAt p.1 .t1 (mayFail true (engineAt p.1 .t1)) := by decide

theorem witness_TogglesChangeOneBit :
    (Instr.disableDevice, 0, false) ∈ toggles ∧ State.reset.eng.mode = .idle ∧
      State.reset.params.accessCanFail = false := by decide

theorem witness_EnqueueWordQueuesItsEntry :
    AtStep (.enqueueWord 0xFF#8 true true) .eq0 (engineAt (.enqueueWord 0xFF#8 true true) .eq0) ∧
    FailsAt (.enqueueWord 0#8 false false) .eq0
      (mayFail true (engineAt (.enqueueWord 0#8 false false) .eq0)) := by decide

theorem witness_DequeueWordTakesOneByte :
    FailsAt .dequeueWord .dq0 (mayFail true (engineAt .dequeueWord .dq0)) ∧
    ( let s := { engineAt .dequeueWord .dq0 with rxf := [0x92#8] }
      AtStep .dequeueWord .dq0 s ∧ Memory.wf s.res.data ∧ s.rxf = [0x92#8]) ∧
    (engineAt .dequeueWord .dq0).rxf = [] := by decide

theorem witness_FailedEngineAccessStopsTheOperation :
    (Instr.initDevice.kind = .command ∧ Label.p14 ∈ stepLabels .initDevice ∧
      FailsAt .initDevice .p14 (mayFail true (engineAt .initDevice .p14))) ∧
    ({ State.reset with eng := { Engine.reset with mode := .faulted } } : State).eng.mode =
      .faulted ∧
    State.reset.params.accessCanFail = false ∧
    hostAction (.present (.regop 0x0104#16 0#32))
      { State.reset with eng := { Engine.reset with mode := .faulted } } =
      .next { State.reset with
        eng := { Engine.reset with mode := .faulted }, refused := [.concurrent] } :=
  ⟨by decide, rfl, rfl, rfl⟩

theorem witness_PrologueStepTable :
    ∀ i ∈ [Instr.initDevice, .writeReg 0#7 1#8 [0#8], .readReg 0#7 1#8, .readRegSel 0#7 0#8 1#8],
      Label.p0 ∈ stepLabels i ∧
      (∀ l ∈ [Label.p0, .p1, .p2, .p3, .p4, .p5, .p6, .p7, .p8, .p9, .p10, .p11, .p12, .p13, .p14],
        AtStep i l (engineAt i l)) ∧
      ¬ (({ engineAt i .p14 with rxf := [0#8] } : State).rxf = []) := by decide

theorem witness_PrologueForgetsWhatItFound :
    let s := { State.reset with cr := 0x43#32, txf := [0x201#10], ls := .txWait }
    Label.p0 ∈ stepLabels .initDevice ∧ Instr.initDevice.wf = true ∧ s.eng.mode = .idle ∧
      s.params.accessCanFail = false ∧ s.params.softrClearsGpo = false ∧ 0 < s.params.txDepth ∧
      0 < s.params.rxDepth ∧ s.env.extBusy = false ∧
      ({ Environment.reset with extBusy := true } : Environment).extBusy = true := by decide

/-- The engine of a two-byte write, plain read and selected read, at a label and a loop index. -/
abbrev loopAt (i : Instr) (l : Label) (index : Byte) : State :=
  { engineAt i l with eng := { (engineAt i l).eng with i := index } }

theorem witness_WriteEnqueueSteps :
    let i := Instr.writeReg 0x50#7 2#8 [0xA1#8, 0xB2#8]
    AtStep i .w0 (engineAt i .w0) ∧
    (AtStep i .w1 (loopAt i .w1 0#8) ∧ [0xA1#8, 0xB2#8][(0#8).toNat]? = some 0xA1#8 ∧
      (0#8).toNat < (2#8).toNat) ∧
    (AtStep i .w1 (loopAt i .w1 1#8) ∧ [0xA1#8, 0xB2#8][(1#8).toNat]? = some 0xB2#8 ∧
      (1#8).toNat < (2#8).toNat) := by decide

theorem witness_WriteEpilogueSteps :
    let i := Instr.writeReg 0x50#7 1#8 [0xA1#8]
    ∀ l ∈ [Label.w2, .w3, .w4, .w5], AtStep i l (engineAt i l) := by decide

theorem witness_ReadEnqueueSteps :
    (∀ l ∈ [Label.g0, .g1], AtStep (.readReg 0#7 255#8) l (engineAt (.readReg 0#7 255#8) l)) ∧
    (∀ l ∈ [Label.s0, .s1, .s2, .s3],
      AtStep (.readRegSel 0#7 0#8 255#8) l (engineAt (.readRegSel 0#7 0#8 255#8) l)) := by decide

theorem witness_ReceiveLoopSteps :
    AtStep (.readReg 0#7 1#8) .g2 (engineAt (.readReg 0#7 1#8) .g2) ∧
    AtStep (.readRegSel 0#7 0#8 1#8) .s4 (engineAt (.readRegSel 0#7 0#8 1#8) .s4) ∧
    ( let s := { loopAt (.readReg 0#7 255#8) .g3 254#8 with rxf := [0x54#8] }
      AtStep (.readReg 0#7 255#8) .g3 s ∧ Memory.wf s.res.data ∧
        s.eng.i.toNat < transferCount (.readReg 0#7 255#8) ∧ s.rxf = [0x54#8]) ∧
    ( let s := { loopAt (.readRegSel 0#7 0#8 2#8) .s5 0#8 with rxf := [0x54#8, 0xE4#8] }
      AtStep (.readRegSel 0#7 0#8 2#8) .s5 s ∧ Memory.wf s.res.data ∧
        s.eng.i.toNat < transferCount (.readRegSel 0#7 0#8 2#8)) := by decide

theorem witness_ReadEpilogueSteps :
    (∀ l ∈ [Label.g4, .g5, .g6], AtStep (.readReg 0#7 1#8) l (engineAt (.readReg 0#7 1#8) l)) ∧
    (∀ l ∈ [Label.s6, .s7, .s8],
      AtStep (.readRegSel 0#7 0#8 1#8) l (engineAt (.readRegSel 0#7 0#8 1#8) l)) := by decide

theorem witness_LazyWriteSucceedsWithNothingSent :
    (Instr.writeReg 0x74#7 1#8 [0x10#8]).wf = true ∧ State.reset.eng.mode = .idle ∧
    State.reset.params.accessCanFail = false ∧ State.reset.env.extBusy = false ∧
    (1#8).toNat + 1 ≤ State.reset.params.txDepth ∧
    ((Instr.writeReg 0x74#7 15#8 (List.replicate 15 0#8)).wf = true ∧
      (15#8).toNat + 1 ≤ State.reset.params.txDepth) := by decide

/-- A launch of one operation with scripted answers and turns. -/
abbrev launchAt (i : Presented) (acks : List Bool) (rbytes : List Byte) (turns : List Agent) :
    State :=
  { State.reset with
    inputs := [.present i], turns := turns
    env := { Environment.reset with acks := acks, rbytes := rbytes } }

theorem launch_reset (i : Instr) (p : Presented) (acks : List Bool) (rbytes : List Byte)
    (turns : List Agent) (h : encode i = some p) : Launch i (launchAt p acks rbytes turns) :=
  ⟨rfl, rfl, rfl, rfl, rfl, p, [], h, rfl⟩

theorem witness_AcknowledgedWriteDeliversItsBytes :
    let i := Instr.writeReg 0x74#7 1#8 [0x10#8]
    let s := launchAt (.cmd 0x31010074#32 [0x10#8]) [true, true] []
      (.host :: (List.replicate ((1#8).toNat + 16) .engine ++
        (List.replicate (2 * (1#8).toNat + 3) .bus ++ (List.replicate 4 .engine ++ []))))
    i.wf = true ∧ Launch i s ∧ (1#8).toNat + 1 ≤ s.params.txDepth ∧
      s.env.acks = List.replicate ((1#8).toNat + 1) true ++ [] :=
  ⟨rfl, launch_reset _ _ _ _ _ rfl, by decide, rfl⟩

/-- The longest write that fits the default FIFO. -/
theorem witness_AcknowledgedWriteDeliversItsBytes_longest :
    let data := List.replicate 15 0xA5#8
    let i := Instr.writeReg 0x7F#7 15#8 data
    let s := launchAt (.cmd 0x310F007F#32 data) (List.replicate 16 true) []
      (.host :: (List.replicate ((15#8).toNat + 16) .engine ++
        (List.replicate (2 * (15#8).toNat + 3) .bus ++ (List.replicate 4 .engine ++ []))))
    i.wf = true ∧ Launch i s ∧ (15#8).toNat + 1 ≤ s.params.txDepth ∧
      s.env.acks = List.replicate ((15#8).toNat + 1) true ++ [] :=
  ⟨rfl, launch_reset _ _ _ _ _ rfl, by decide, rfl⟩

theorem witness_UnacknowledgedWriteFails :
    let i := Instr.writeReg 0x2A#7 1#8 [0x01#8]
    let s := launchAt (.cmd 0x3101002A#32 [0x01#8]) [false] []
      (.host :: (List.replicate ((1#8).toNat + 16) .engine ++
        (List.replicate 3 .bus ++ (List.replicate 4 .engine ++ []))))
    i.wf = true ∧ Launch i s ∧ (1#8).toNat + 1 ≤ s.params.txDepth ∧ s.env.acks = false :: [] :=
  ⟨rfl, launch_reset _ _ _ _ _ rfl, by decide, rfl⟩

theorem witness_PlainReadDeliversItsBytes :
    let i := Instr.readReg 0x74#7 1#8
    let s := launchAt (.cmd 0x32010074#32 []) [true] [0x10#8]
      (.host :: (List.replicate 17 .engine ++ (List.replicate 3 .bus ++
        ((List.replicate (1#8).toNat [Agent.bus, .engine, .engine]).flatten ++
          (.bus :: (List.replicate 3 .engine ++ []))))))
    i.wf = true ∧ Launch i s ∧ 2 ≤ s.params.txDepth ∧ 1 ≤ s.params.rxDepth ∧
      Memory.wf s.res.data ∧ [0x10#8].length = (1#8).toNat ∧ s.env.rbytes = [0x10#8] ++ [] ∧
      s.env.acks = true :: [] :=
  ⟨rfl, launch_reset _ _ _ _ _ rfl, by decide, by decide, by decide, rfl, rfl, rfl⟩

/-- The longest read. -/
theorem witness_PlainReadDeliversItsBytes_longest :
    let i := Instr.readReg 0x00#7 255#8
    let bytes := List.replicate 255 0x5A#8
    let s := launchAt (.cmd 0x32FF0000#32 []) [true] bytes
      (.host :: (List.replicate 17 .engine ++ (List.replicate 3 .bus ++
        ((List.replicate (255#8).toNat [Agent.bus, .engine, .engine]).flatten ++
          (.bus :: (List.replicate 3 .engine ++ []))))))
    i.wf = true ∧ Launch i s ∧ 2 ≤ s.params.txDepth ∧ 1 ≤ s.params.rxDepth ∧
      Memory.wf s.res.data ∧ bytes.length = (255#8).toNat ∧ s.env.rbytes = bytes ++ [] ∧
      s.env.acks = true :: [] :=
  ⟨rfl, launch_reset _ _ _ _ _ rfl, by decide, by decide, by decide,
    List.length_replicate, (List.append_nil _).symm, rfl⟩

theorem witness_SelectedReadDeliversItsBytes :
    let i := Instr.readRegSel 0x68#7 0x20#8 1#8
    let s := launchAt (.cmd 0x33012068#32 []) [true, true, true] [0x10#8]
      (.host :: (List.replicate 19 .engine ++ (List.replicate 7 .bus ++
        ((List.replicate (1#8).toNat [Agent.bus, .engine, .engine]).flatten ++
          (.bus :: (List.replicate 3 .engine ++ []))))))
    i.wf = true ∧ Launch i s ∧ 4 ≤ s.params.txDepth ∧ 1 ≤ s.params.rxDepth ∧
      Memory.wf s.res.data ∧ [0x10#8].length = (1#8).toNat ∧ s.env.rbytes = [0x10#8] ++ [] ∧
      s.env.acks = true :: true :: true :: [] :=
  ⟨rfl, launch_reset _ _ _ _ _ rfl, by decide, by decide, by decide, rfl, rfl, rfl⟩

theorem witness_LenientExitLosesTheLastByte :
    let i := Instr.writeReg 0x74#7 1#8 [0x10#8]
    let s := launchAt (.cmd 0x31010074#32 [0x10#8]) [true] []
      (.host :: (List.replicate 17 .engine ++
        (List.replicate 3 .bus ++ (List.replicate 4 .engine ++ []))))
    Launch i s ∧ 2 ≤ s.params.txDepth ∧ s.env.acks = true :: [] :=
  ⟨launch_reset _ _ _ _ _ rfl, by decide, rfl⟩

theorem witness_HungPollsAreNotLeft :
    ( let i := Instr.readReg 0x2A#7 1#8
      let s := { engineAt i .g2 with cr := 1#32, txf := [0x201#10], ls := .halted }
      s.eng.mode = .run ∧ s.params.accessCanFail = false ∧
      after (step s) (fun t => t.eng.upc) = some .g2 ∧ s.eng.upc = .g2 ∧
      Label.g2 ∈ stepLabels s.eng.cmd ∧ s.ls = .halted ∧ s.rxf = [] ∧
      (nextAgent s).1 ≠ .host) ∧
    ( let s := { engineAt .initDevice .p14 with
        cr := 1#32, env := { Environment.reset with extBusy := true } }
      s.eng.mode = .run ∧ s.params.accessCanFail = false ∧
      after (step s) (fun t => t.eng.upc) = some .p14 ∧ s.eng.upc = .p14 ∧
      Label.p14 ∈ stepLabels s.eng.cmd ∧ s.ls = .idle ∧ s.txf = [] ∧ s.env.extBusy = true ∧
      (nextAgent s).1 = .engine) :=
  ⟨⟨rfl, rfl, rfl, rfl, by decide, rfl, rfl, by decide⟩,
    ⟨rfl, rfl, rfl, rfl, by decide, rfl, rfl, rfl, by decide⟩⟩

/-- An enabled bus side at a line state with entries queued. -/
abbrev busAt (ls : LineState) (txf : List Entry) : State :=
  { State.reset with cr := 1#32, ls := ls, txf := txf }

theorem witness_BusTakesEntriesInOrder :
    (BusOn (busAt .idle [0x1E8#10]) ∧ (0x1E8#10).getLsbD 8 = true ∧
      (busAt .idle [0x1E8#10]).env.extBusy = false) ∧
    (BusOn (busAt .txWait [0x1E9#10]) ∧ (0x1E9#10).getLsbD 8 = true) ∧
    (BusOn (busAt .txWait [0x210#10]) ∧ (0x210#10).getLsbD 8 = false) ∧
    (∀ e ∈ [0x201#10, 0x2FF#10], BusOn (busAt .rxCountWait [e]) ∧ e.getLsbD 8 = false ∧
      e.getLsbD 9 = true ∧ e.extractLsb' 0 8 ≠ 0#8) ∧
    ( let s := { busAt .idle [0x1E8#10] with env := { Environment.reset with extBusy := true } }
      BusOn s ∧ s.ls = .idle ∧ (0x1E8#10).getLsbD 8 = true ∧ s.env.extBusy = true) ∧
    (∀ ls ∈ [LineState.idle, .txWait, .rxCountWait],
      BusOn (busAt ls []) ∧ (busAt ls []).txf = [] ∧
        after (busStep (busAt ls [])) (fun t => t.ls) = some ls) := by decide

theorem witness_FramingFaultStopsTheBus :
    (BusOn (busAt .idle [0x010#10]) ∧ (busAt .idle [0x010#10]).txf = 0x010#10 :: [] ∧
      (busAt .idle [0x010#10]).ls = .idle ∧ (0x010#10).getLsbD 8 = false) ∧
    (∀ e ∈ [0x301#10, 0x001#10, 0x200#10], BusOn (busAt .rxCountWait [e]) ∧
      (e.getLsbD 8 = true ∨ e.getLsbD 9 = false ∨ e.extractLsb' 0 8 = 0#8)) ∧
    ({ State.reset with framingBlocked := true } : State).framingBlocked = true := by decide

/-- A bus side sending a byte, with one master or several, the answer scripted and not LOST. -/
abbrev sending (ls : LineState) (several ack : Bool) : State :=
  { busAt ls [] with
    params := { multiMaster := several }
    env := { Environment.reset with acks := [ack], losts := [false] } }

theorem witness_SentBytesAreAnswered :
    (∀ several a : Bool,
      BusOn (sending (.sendAddr 0xE9#8 true) several a) ∧
      (askLost (sending (.sendAddr 0xE9#8 true) several a)).1 = false ∧
      (askAck (.addr 0xE9#8) (askLost (sending (.sendAddr 0xE9#8 true) several a)).2).1 = a) ∧
    (∀ several a : Bool,
      BusOn (sending (.sendData 0x54#8 false) several a) ∧
      (askLost (sending (.sendData 0x54#8 false) several a)).1 = false ∧
      (askAck (.txb 0x54#8) (askLost (sending (.sendData 0x54#8 false) several a)).2).1 = a) := by
  decide

theorem witness_ArbitrationLossHaltsTheBus :
    ( let s := { busAt (.sendAddr 0xE8#8 false) [] with
        params := { multiMaster := true }, env := { Environment.reset with losts := [true] } }
      BusOn s ∧ s.ls = .sendAddr 0xE8#8 false ∧ (askLost s).1 = true) ∧
    ( let s := { busAt (.sendData 0x54#8 true) [] with
        params := { multiMaster := true }, env := { Environment.reset with losts := [true] } }
      BusOn s ∧ s.ls = .sendData 0x54#8 true ∧ (askLost s).1 = true) ∧
    State.reset.params.multiMaster = false := by decide

theorem witness_ReceiveStopAndHalt :
    (∀ n ∈ [1, 255], BusOn (busAt (.rx n) []) ∧
      (busAt (.rx n) []).rxf.length < (busAt (.rx n) []).params.rxDepth) ∧
    ( let s := { busAt (.rx 3) [] with rxf := List.replicate 16 0#8 }
      BusOn s ∧ s.params.rxDepth ≤ s.rxf.length) ∧
    BusOn (busAt (.stopping true) []) ∧ BusOn (busAt (.stopping false) []) ∧
    BusOn (busAt .halted []) := by decide

theorem witness_DisabledAndStaticBusDoNothing :
    (Refusal.staticModeNotSpecified ∉ State.reset.refused ∧ State.reset.cr.getLsbD 0 = false) ∧
    ( let s := busAt .halted [0x210#10]
      Refusal.staticModeNotSpecified ∉ s.refused ∧
        ¬ (s.cr.getLsbD 0 = true ∧ s.cr.getLsbD 2 = true) ∧ Quiescent s) ∧
    ( let s := { State.reset with cr := 0x05#32 }
      Refusal.staticModeNotSpecified ∉ s.refused ∧ s.cr.getLsbD 0 = true ∧
        s.cr.getLsbD 2 = true) := by decide

theorem witness_BusLeavesRegistersAlone :
    busStep (busAt .idle []) = .next (busAt .idle []) ∧
    after (busStep (busAt .idle [0x1E8#10])) (fun t => t.trace) = some [.start] := ⟨rfl, rfl⟩

theorem witness_EnvironmentTogglesTheBusyBit :
    ( let s := { State.reset with turns := [.env] }
      stopReason s = none ∧ s.turns = [.env] ∧ s.params.extBusyAllowed = true ∧ s.ls = .idle) ∧
    ( let s := { State.reset with turns := [.env], ls := .txWait }
      stopReason s = none ∧ s.turns = [.env] ∧
        ¬ (s.params.extBusyAllowed = true ∧ (s.ls = .idle ∨ s.ls = .halted))) := by decide

theorem witness_ReferenceSlaveReadsBack :
    let d : SimDev := { address := 0x68#7, kind := .pointer, regs := [(0, 1#8)], volatile := [],
                        ptr := 0xFF#8, selected := none, wantPtr := false }
    d.kind = .pointer ∧ d.volatile = [] ∧ Memory.wf d.regs ∧ [0x54#8, 0xE4#8].length ≤ 256 ∧
      1 < [0x54#8, 0xE4#8].length := by decide

theorem witness_StepAnswersNext : after (step State.reset) (fun t => t.eng.mode) = some .idle ∧
    after (step (busAt .idle [0x1E8#10])) (fun t => t.trace) = some [.start] := ⟨rfl, rfl⟩

/-- The hypotheses of TraceAndMarksOnlyGrow and of ResultsAndPinsChangeOnlyByTheirWriters: a step that
changes the failure flag, and one that changes GPO. -/
theorem witness_ResultsAndPinsChangeOnlyByTheirWriters :
    ( let s := { loopAt (.writeReg 0#7 1#8 [0#8]) .w5 1#8 with
        cr := 1#32, eng := { (loopAt (.writeReg 0#7 1#8 [0#8]) .w5 1#8).eng with isr := 2#8 } }
      after (step s) (fun t => t.res.fail) = some true ∧ s.res.fail = false) ∧
    ( let s := hostTurn (.present (.regop 0x1124#16 1#32))
      after (step s) (fun t => t.gpo) = some 1#32 ∧ s.gpo = 0#32 ∧
        s.params.softrClearsGpo = false) := ⟨⟨rfl, rfl⟩, ⟨rfl, rfl, rfl⟩⟩

theorem witness_TraceAndMarksOnlyGrow :
    step State.reset = .next State.reset := rfl

/-- A write transaction at its last step, as its run leaves it. -/
abbrev closing : State :=
  { engineAt (.writeReg 0x74#7 1#8 [0x10#8]) .w5 with
    cr := 1#32
    eng := { (engineAt (.writeReg 0x74#7 1#8 [0x10#8]) .w5).eng with tmp := 1#32, i := 1#8 } }

theorem closing_inv : Inv closing where
  txfBound := by decide
  rxfBound := by decide
  txrstEmpty := by decide
  disabledIdle := by decide
  disabledUnblocked := by decide
  rxCount := by intro n h; cases h
  rxPirqField := by decide
  running := by decide
  loopIndex := by decide
  byteWaiting := by decide
  dataWf := by decide
  dataBound := by decide
  faultsNodup := by decide
  refusedNodup := by decide
  slavesWf := trivial

theorem closing_facts : TransactionFacts closing where
  clean := by decide
  crZero := by decide
  crHeld := by decide
  crEnabled := by decide
  tmpZero := by decide
  tmpHeld := by decide
  tmpEnabled := by decide
  isrClear := by decide
  threshold := by decide
  queued := by intro _ n h; cases h

theorem witness_StepKeepsInvariant :
    Inv closing ∧ after (step closing) (fun t => (t.cr, t.eng.mode)) = some (0#32, .idle) :=
  ⟨closing_inv, rfl⟩

theorem witness_StepKeepsTransactionFacts :
    Inv closing ∧ TransactionFacts closing ∧
      after (step closing) (fun t => (t.cr, t.eng.mode)) = some (0#32, .idle) :=
  ⟨closing_inv, closing_facts, rfl⟩

theorem witness_TransactionsKeepTheirPromises :
    Inv closing ∧ TransactionFacts closing ∧ closing.eng.mode = .run ∧
      after (engineStep closing) (fun t => t.eng.mode) = some .idle ∧
      closing.eng.cmd ≠ .dequeueWord ∧
      closing.eng.cmd = .writeReg 0x74#7 1#8 [0x10#8] ∧
      (1#8).toNat + 1 ≤ closing.params.txDepth :=
  ⟨closing_inv, closing_facts, rfl, rfl, by decide, rfl, by decide⟩

theorem witness_BringUpReportsTheFirstMismatch :
    (∀ j, j < [0x54#8].length → [0x54#8][j]? = some (memRead [(0, 0x54#8)] j)) ∧
    ((∃ b, [0x54#8][0]? = some b ∧ memRead [] 0 ≠ b) ∧
      ∀ j, j < 0 → [0x54#8][j]? = some (memRead [] j)) := by
  refine ⟨by decide, ⟨0x54#8, rfl, by decide⟩, fun j h => absurd h (Nat.not_lt_zero j)⟩

/-- Every phase that issues an operation; a failed raw access of a reset pulse and a Faulted read-back
abort the sequence. -/
theorem witness_BringUpReportsTheFirstMismatch_failedStep :
    (∀ phase ∈ [BringUpPhase.assertSwitch, .releaseSwitch, .assertClkdev, .releaseClkdev,
        .selectPort, .verifyPort, .writeConfig bringUp.configList, .readBack 0#8 [0x54#8] [],
        .pollReady], bringUpInstr bringUp 0#32 phase ≠ none) ∧
    bringUpAfter bringUp { State.reset with ret := .accessFailed } .assertSwitch =
      .aborted .accessFailed ∧
    bringUpAfter bringUp { State.reset with eng := { Engine.reset with mode := .faulted } }
      (.readBack 0#8 [0x54#8] []) = .aborted .accessFailed ∧
    bringUpAfter bringUp State.reset .assertSwitch = .releaseSwitch := by decide

/-- A write whose next engine step queues its last entry, on a bus side that has not taken the start. -/
abbrev startQueued : State :=
  { engineAt (.writeReg 0x74#7 1#8 [0x10#8]) .w1 with cr := 1#32, txf := [0x1E8#10] }

/-- 70_reset_and_hazards.md R297. Under eager-bus the start is taken first; under lazy-bus the engine goes on and polls with the start
still queued; a start that the environment's turn, not the engine's, made possible is not owed, and one
that it makes impossible still is. -/
theorem test_schedules_and_premises :
    ( let s := { engineAt (.writeReg 0x74#7 1#8 [0x10#8]) .w0 with
        cr := 1#32, env := { Environment.reset with acks := [true] } }
      s.policy = .eager ∧ s.turns = [] ∧
      after (runSteps 3 s) (fun t => (t.refused, t.trace)) =
        some ([], [.start, .addr 0xE8#8 true]) ∧
      quiescentPolls 3 s = true ∧ PromptStart 3 s) ∧
    ( let s := { startQueued with policy := .lazy }
      s.policy = .lazy ∧ s.turns = [] ∧
      after (runSteps 2 s) (fun t => (t.refused, t.eng.upc)) = some ([], .w3) ∧
      quiescentPolls 2 s = false ∧ ¬ PromptStart 2 s) ∧
    ( let s := { startQueued with
        turns := [.engine, .env, .engine], env := { Environment.reset with extBusy := true } }
      PromptStart 3 s) ∧
    ( let s := { engineAt (.writeReg 0x74#7 1#8 [0x10#8]) .w0 with
        cr := 1#32, turns := [.engine, .env, .engine] }
      PromptStart 2 s ∧ ¬ PromptStart 3 s) :=
  ⟨⟨rfl, rfl, rfl, rfl, rfl⟩, ⟨rfl, rfl, rfl, rfl, Bool.false_ne_true⟩, rfl,
    rfl, Bool.false_ne_true⟩

end Sys2Proof.Tests
end

section
/-! PROOFS. The register-port operations as the host issues them (40_register_access.md R121 to R132): the
rules of one host access, the facts about the words it moves, and the statements of the family. -/

namespace Sys2Proof.Machine

/-! ### What asking for the outcome of an access leaves unchanged -/

@[simp] theorem afterAsk_params (s : State) : (afterAsk s).params = s.params := askFail_params s
@[simp] theorem afterAsk_cr (s : State) : (afterAsk s).cr = s.cr := askFail_cr s
@[simp] theorem afterAsk_isr (s : State) : (afterAsk s).isr = s.isr := askFail_isr s
@[simp] theorem afterAsk_rxPirq (s : State) : (afterAsk s).rxPirq = s.rxPirq := askFail_rxPirq s
@[simp] theorem afterAsk_gpo (s : State) : (afterAsk s).gpo = s.gpo := askFail_gpo s
@[simp] theorem afterAsk_txf (s : State) : (afterAsk s).txf = s.txf := askFail_txf s
@[simp] theorem afterAsk_rxf (s : State) : (afterAsk s).rxf = s.rxf := askFail_rxf s
@[simp] theorem afterAsk_ls (s : State) : (afterAsk s).ls = s.ls := askFail_ls s
@[simp] theorem afterAsk_faults (s : State) : (afterAsk s).faults = s.faults := askFail_faults s
@[simp] theorem afterAsk_env_extBusy (s : State) : (afterAsk s).env.extBusy = s.env.extBusy :=
  askFail_env_extBusy s

/-! ### One host access -/

/-- The pattern of a readable register decodes to its read (30_encoding.md R100). -/
theorem decode_regopRead (r : RdReg) : decode (regopRead r) = .ok r.instr := by
  cases r <;> rfl

/-- The pattern of a writable register decodes to its write, whatever the data word (R100). -/
theorem decode_regopWrite (r : WrReg) (w : Word) : decode (regopWrite r w) = .ok (r.instr w) := by
  cases r <;> rfl

theorem exec_rdInstr (r : RdReg) (s : State) : exec r.instr s = hostRead r s := by
  cases r <;> rfl

theorem exec_wrInstr (r : WrReg) (w : Word) (s : State) :
    exec (r.instr w) s = hostWrite r w s := by
  cases r <;> rfl

/-- A host read with an Idle engine whose access succeeds: the port's read, its word handed back. -/
theorem exec_rdInstr_ok (r : RdReg) (s : State) (hm : s.eng.mode = .idle)
    (hf : (askFail s).1 = false) :
    exec r.instr s = .next { (portRead r (afterAsk s)).2 with
      ret := .word (portRead r (afterAsk s)).1 } := by
  simp [exec_rdInstr, hostRead, hm, hf, afterAsk]

/-- A host write with an Idle engine whose access succeeds: the port's write. -/
theorem exec_wrInstr_ok (r : WrReg) (w : Word) (s : State) (hm : s.eng.mode = .idle)
    (hf : (askFail s).1 = false) :
    exec (r.instr w) s = .next { portWrite r w (afterAsk s) with ret := .done } := by
  simp [exec_wrInstr, hostWrite, hm, hf, afterAsk]

/-! ### The status word -/

/-- Bit `k` of a word of eight flags, bit 0 first; every bit above them is 0. -/
theorem flagsWord_getLsbD (b7 b6 b5 b4 b3 b2 b1 b0 : Bool) (k : Nat) :
    (flagsWord b7 b6 b5 b4 b3 b2 b1 b0).getLsbD k =
      [b0, b1, b2, b3, b4, b5, b6, b7].getD k false := by
  rcases Nat.lt_or_ge k 8 with hk | hk
  · rw [flagsWord, BitVec.getLsbD_setWidth]
    simp only [BitVec.getLsbD_append, BitVec.getLsbD_ofBool]
    interval_cases k <;> simp
  · rw [List.getD_eq_default _ _ hk, flagsWord, BitVec.getLsbD_setWidth,
      BitVec.getLsbD_of_ge _ _ hk, Bool.and_false]

/-- `own_busy` as 10_state.md R33 words it. -/
theorem ownBusy_eq_decide (ls : LineState) : ownBusy ls = decide (ls ≠ .idle ∧ ls ≠ .halted) := by
  cases ls <;> simp [ownBusy]

/-- The status word shows nothing of the environment's scripted answers. -/
@[simp] theorem srWord_afterAsk (s : State) : srWord (afterAsk s) = srWord s := by
  simp [srWord, statusNow]

/-- The status word bit by bit, bit 0 first (10_state.md R24). -/
theorem srWord_getLsbD (s : State) (k : Nat) : (srWord s).getLsbD k =
    [false, false, decide (s.ls ≠ .idle ∧ s.ls ≠ .halted) || s.env.extBusy, false,
      decide (s.rxf.length = s.params.rxDepth), decide (s.txf.length = s.params.txDepth),
      decide (s.rxf = []), decide (s.txf = [])].getD k false := by
  rw [srWord, encodeStatus, flagsWord_getLsbD]
  simp [statusNow, ownBusy_eq_decide, beq_eq_decide, List.length_eq_zero_iff]

/-! ### Reads without side effect -/

/-- The word of such a read does not depend on the outcomes the environment has in store. -/
theorem portRead_word_afterAsk (r : RdReg) (s : State) (hr : r ≠ .rxFifo) :
    (portRead r (afterAsk s)).1 = (portRead r s).1 := by
  cases r
  case rxFifo => exact absurd rfl hr
  all_goals simp [portRead]

/-- A host read of any register but the receive FIFO changes nothing but the word handed back
(20_memory.md R66). -/
theorem exec_rdInstr_pure (r : RdReg) (s : State) (hr : r ≠ .rxFifo) (hm : s.eng.mode = .idle)
    (hf : (askFail s).1 = false) :
    exec r.instr s = .next { afterAsk s with ret := .word (portRead r s).1 } := by
  rw [exec_rdInstr_ok r s hm hf, portRead_pure r _ hr, portRead_word_afterAsk r s hr]

/-! ### The effects of the port's operations -/

theorem recordFault_eq (f : Fault) (s : State) :
    recordFault f s = { s with faults := withFault f s.faults } := by
  unfold recordFault withFault
  split <;> rfl

theorem abortOf_eq (ls : LineState) : abortOf ls = if ownBusy ls then [.abort] else [] := by
  cases ls <;> rfl

/-- A write of the control register is what 40_register_access.md R122 and 45_bus_side.md R223 say. -/
theorem writeCr_eq_controlWritten (w : Word) (s : State) : writeCr w s = controlWritten w s := by
  have habandons : (s.cr.getLsbD 0 = true ∧ w.getLsbD 0 = false) ↔
      (crEn s.cr && !crEn w) = true := by simp [crEn]
  rw [writeCr_eq, controlWritten, abortOf_eq]
  simp only [habandons]
  cases crEn s.cr && !crEn w
  · rfl
  · cases ownBusy s.ls <;> simp [crTxrst]

/-- The threshold register keeps the low RX_PIRQ_BITS bits of the word (R128). -/
theorem rxPirqField_getLsbD (p : Params) (w : Word) (k : Nat) :
    (rxPirqField p w).getLsbD k = (decide (k < rxPirqBits p) && w.getLsbD k) := by
  rw [rxPirqField, BitVec.getLsbD_ofNat, Nat.testBit_mod_two_pow, BitVec.testBit_toNat]
  rcases Nat.lt_or_ge k 32 with hk | hk
  · simp [hk]
  · simp [BitVec.getLsbD_of_ge w k hk]

/-! ### WR.TX_FIFO and RD.RX_FIFO, a rule per case -/

/-- While TXRST is 1 an entry is discarded (R126). -/
theorem writeTxFifo_of_txrst (w : Word) (s : State) (h : crTxrst s.cr = true) :
    writeTxFifo w s = s := by
  simp [writeTxFifo, h]

/-- On a full FIFO the fault is recorded and nothing else changes (R126). -/
theorem writeTxFifo_of_full (w : Word) (s : State) (h : crTxrst s.cr = false)
    (hfull : s.txf.length = s.params.txDepth) :
    writeTxFifo w s = { s with faults := withFault (.txOverflow (entryOfWord w)) s.faults } := by
  simp [writeTxFifo, h, hfull, recordFault_eq]

/-- Otherwise the low ten bits are pushed (R126). -/
theorem writeTxFifo_of_room (w : Word) (s : State) (h : crTxrst s.cr = false)
    (hroom : s.txf.length ≠ s.params.txDepth) :
    writeTxFifo w s = { s with txf := s.txf ++ [entryOfWord w] } := by
  simp [writeTxFifo, h, hroom]

/-- The oldest byte leaves the receive FIFO and stands in the low byte of the word read (R127). -/
theorem readRxFifo_cons (s : State) (b : Byte) (rest : List Byte) (h : s.rxf = b :: rest) :
    readRxFifo s = (((Config.freeWord s.draws).extractLsb' 8 24 ++ b : BitVec (24 + 8)),
      { s with rxf := rest, draws := s.draws + 1 }) := by
  simp [readRxFifo, h]

/-- On an empty receive FIFO the fault is recorded and the whole word drawn (R127). -/
theorem readRxFifo_nil (s : State) (h : s.rxf = []) :
    readRxFifo s = (Config.freeWord s.draws,
      { s with faults := withFault .rxUnderflow s.faults, draws := s.draws + 1 }) := by
  simp [readRxFifo, h, recordFault_eq]

/-! ### The statements -/

/-- Settles O15: a read without side effect, its word known bit by bit. -/
theorem statusReadShowsTheFlags : Obligations.StatusReadShowsTheFlags := by
  refine ⟨decode_regopRead .sr, fun s hm hf =>
    ⟨srWord s, exec_rdInstr_pure .sr s (by decide) hm hf, ?_⟩⟩
  have hbit := srWord_getLsbD s
  exact ⟨hbit 7, hbit 6, hbit 5, hbit 4, hbit 3, hbit 2, hbit 1, hbit 0,
    fun k hk => (hbit k).trans (List.getD_eq_default _ _ hk)⟩

/-- Settles O16: the port's write of the control register is `controlWritten`. -/
theorem controlWriteStoresFlushesAbandons : Obligations.ControlWriteStoresFlushesAbandons := by
  refine ⟨decode_regopWrite .cr, fun s w hm hf => ?_⟩
  rw [← writeCr_eq_controlWritten]
  exact exec_wrInstr_ok .cr w s hm hf

/-- Settles O14: four reads without side effect. -/
theorem registerReadsYieldTheirRegister : Obligations.RegisterReadsYieldTheirRegister := by
  refine ⟨⟨decode_regopRead .cr, decode_regopRead .isr, decode_regopRead .rxPirq,
    decode_regopRead .gpo⟩, fun s hm hf => ?_⟩
  exact ⟨exec_rdInstr_pure .cr s (by decide) hm hf, exec_rdInstr_pure .isr s (by decide) hm hf,
    exec_rdInstr_pure .rxPirq s (by decide) hm hf, exec_rdInstr_pure .gpo s (by decide) hm hf⟩

/-- Settles O17: the port's writes of three plain registers; the threshold's bits are those of
`rxPirqField`. -/
theorem plainWritesReplaceTheirRegister : Obligations.PlainWritesReplaceTheirRegister := by
  refine ⟨fun w => ⟨decode_regopWrite .isr w, decode_regopWrite .rxPirq w,
    decode_regopWrite .gpo w⟩, fun s w hm hf => ⟨exec_wrInstr_ok .isr w s hm hf,
    exec_wrInstr_ok .gpo w s hm hf, rxPirqField s.params w, ?_, rxPirqField_getLsbD s.params w⟩⟩
  exact (exec_wrInstr_ok .rxPirq w s hm hf).trans (by simp [portWrite])

/-- Settles O18, by the three cases of a write of the transmit FIFO. -/
theorem transmitWritePushesOneEntry : Obligations.TransmitWritePushesOneEntry := by
  refine ⟨decode_regopWrite .txFifo, fun s w hm hf => ?_⟩
  have hexec := exec_wrInstr_ok .txFifo w s hm hf
  rw [portWrite] at hexec
  refine ⟨fun hrst => ?_, fun hrst hfull => ?_, fun hrst hroom => ?_⟩ <;>
    rw [← afterAsk_cr] at hrst
  · rwa [writeTxFifo_of_txrst w _ hrst] at hexec
  · rwa [writeTxFifo_of_full w _ hrst (by simpa using hfull), afterAsk_faults] at hexec
  · rwa [writeTxFifo_of_room w _ hrst (by simpa using hroom), afterAsk_txf] at hexec

/-- Settles O19, by whether a byte waits in the receive FIFO. -/
theorem receiveReadPopsOneByte : Obligations.ReceiveReadPopsOneByte := by
  refine ⟨decode_regopRead .rxFifo, fun s hm hf => ?_⟩
  have hexec := exec_rdInstr_ok .rxFifo s hm hf
  rw [portRead] at hexec
  refine ⟨fun b rest hrxf => ?_, fun hrxf => ?_⟩ <;> rw [← afterAsk_rxf] at hrxf
  · rw [readRxFifo_cons _ b rest hrxf] at hexec
    exact ⟨_, BitVec.extractLsb'_append_eq_right, hexec⟩
  · rw [readRxFifo_nil _ hrxf, afterAsk_faults] at hexec
    exact ⟨_, hexec⟩

end Sys2Proof.Machine
end

section
/-! PROOFS. The four pure functions (41_bit_codec_decoders.md R150 to R153, R157): what the bit codec
does to each bit, the two flag layouts through it, and the statements of the family. -/

namespace Sys2Proof.Machine

/-! ### The bit codec, bit by bit -/

/-- The mask-and-compare of R150 reads the bit at the offset. -/
theorem getBit_eq_getLsbD (w : Word) (o : BitVec 5) : getBit w o = w.getLsbD o.toNat := by
  rw [getBit, BitVec.and_one_eq_setWidth_ofBool_getLsbD, BitVec.getLsbD_ushiftRight, Nat.add_zero]
  cases w.getLsbD o.toNat <;> rfl

/-- A truth value shifted to an offset stands at that bit of the word and nowhere else. -/
theorem shiftedBool_getLsbD (v : Bool) (n k : Nat) (hk : k < 32) :
    ((BitVec.ofBool v).setWidth 32 <<< n).getLsbD k = (decide (k = n) && v) := by
  have hbit : (!decide (k < n) && decide (k - n = 0)) = decide (k = n) := by
    rw [← decide_not, ← Bool.decide_and, decide_eq_decide]
    omega
  simp [hk, ← hbit, Bool.and_assoc]

/-- The mask of R151 replaces the bit at the offset and no other. -/
theorem setBit_getLsbD (w : Word) (o : BitVec 5) (v : Bool) (k : Nat) (hk : k < 32) :
    (setBit w o v).getLsbD k = if k = o.toNat then v else w.getLsbD k := by
  have hmask : (1#32 <<< o.toNat).getLsbD k = decide (k = o.toNat) :=
    (shiftedBool_getLsbD true o.toNat k hk).trans (Bool.and_true _)
  rw [setBit, BitVec.getLsbD_or, BitVec.getLsbD_and, BitVec.getLsbD_not, hmask,
    shiftedBool_getLsbD v o.toNat k hk]
  by_cases hko : k = o.toNat
  · simp [hko]
  · simp [hko, hk]

/-- Two writes of one bit: the later one stands. -/
theorem setBit_setBit (w : Word) (o : BitVec 5) (u v : Bool) :
    setBit (setBit w o u) o v = setBit w o v := by
  refine BitVec.eq_of_getLsbD_eq fun k hk => ?_
  simp only [setBit_getLsbD _ _ _ k hk]
  split <;> rfl

/-- Writing a bit gives the word back exactly when it had that value (R151). -/
theorem setBit_eq_self_iff (w : Word) (o : BitVec 5) (v : Bool) :
    setBit w o v = w ↔ w.getLsbD o.toNat = v := by
  constructor
  · intro h
    have hbit := setBit_getLsbD w o v o.toNat o.isLt
    rwa [h, if_pos rfl] at hbit
  · intro h
    refine BitVec.eq_of_getLsbD_eq fun k hk => ?_
    rw [setBit_getLsbD w o v k hk]
    split
    · next hko => rw [hko, h]
    · rfl

/-! ### The two flag layouts -/

/-- Eight flags taken from a word's low bits in order are its low byte. -/
theorem flagsWord_of_lowBits (r : Word) :
    flagsWord (r.getLsbD 7) (r.getLsbD 6) (r.getLsbD 5) (r.getLsbD 4) (r.getLsbD 3) (r.getLsbD 2)
      (r.getLsbD 1) (r.getLsbD 0) = r &&& 0x000000FF#32 := by
  refine BitVec.eq_of_getLsbD_eq fun k hk => ?_
  have hmask : (0x000000FF#32).getLsbD k = decide (k < 8) := by
    rw [show 0x000000FF#32 = (BitVec.allOnes 8).setWidth 32 from rfl, BitVec.getLsbD_setWidth,
      BitVec.getLsbD_allOnes, decide_eq_true hk, Bool.true_and]
  rw [flagsWord_getLsbD, BitVec.getLsbD_and, hmask]
  rcases Nat.lt_or_ge k 8 with hlow | hhigh
  · interval_cases k <;> simp
  · rw [List.getD_eq_default _ _ hhigh, decide_eq_false hhigh.not_gt, Bool.and_false]

/-- Each field of the status word is one bit (R152). -/
theorem decodeStatus_eq (r : Word) : decodeStatus r =
    ⟨r.getLsbD 7, r.getLsbD 6, r.getLsbD 5, r.getLsbD 4, r.getLsbD 3, r.getLsbD 2, r.getLsbD 1,
      r.getLsbD 0⟩ := by
  simp [decodeStatus, getBit_eq_getLsbD]

/-- Each field of the interrupt-status word is one bit (R153). -/
theorem decodeISR_eq (r : Word) : decodeISR r =
    ⟨r.getLsbD 7, r.getLsbD 6, r.getLsbD 5, r.getLsbD 4, r.getLsbD 3, r.getLsbD 2, r.getLsbD 1,
      r.getLsbD 0⟩ := by
  simp [decodeISR, getBit_eq_getLsbD]

/-- Encode after decode is the low byte (R157). -/
theorem encodeStatus_decodeStatus (r : Word) :
    encodeStatus (decodeStatus r) = r &&& 0x000000FF#32 := by
  rw [decodeStatus_eq, encodeStatus, flagsWord_of_lowBits]

/-- Encode after decode is the low byte (R157). -/
theorem encodeISR_decodeISR (r : Word) : encodeISR (decodeISR r) = r &&& 0x000000FF#32 := by
  rw [decodeISR_eq, encodeISR, flagsWord_of_lowBits]

/-- Decode after encode is the identity: each flag is read back from the bit it was put at (R157). -/
theorem decodeStatus_encodeStatus (st : StatusWord) : decodeStatus (encodeStatus st) = st := by
  simp only [decodeStatus_eq, encodeStatus, flagsWord_getLsbD]
  rfl

/-- Decode after encode is the identity: each flag is read back from the bit it was put at (R157). -/
theorem decodeISR_encodeISR (isr : InterruptStatusWord) : decodeISR (encodeISR isr) = isr := by
  simp only [decodeISR_eq, encodeISR, flagsWord_getLsbD]
  rfl

/-! ### The calls: nothing but the returned value changes -/

theorem exec_getBit (w : Word) (o : BitVec 5) (s : State) :
    exec (.getBit w o) s = .next { s with ret := .flag (getBit w o) } := rfl

theorem exec_setBit (w : Word) (o : BitVec 5) (v : Bool) (s : State) :
    exec (.setBit w o v) s = .next { s with ret := .word (setBit w o v) } := rfl

theorem exec_decodeStatus (r : Word) (s : State) :
    exec (.decodeStatus r) s = .next { s with ret := .status (decodeStatus r) } := rfl

theorem exec_decodeISR (r : Word) (s : State) :
    exec (.decodeISR r) s = .next { s with ret := .isrFlags (decodeISR r) } := rfl

/-! ### The statements -/

/-- Settles O22: the codec bit by bit; of a set and a clear the clear stands, and it changes nothing
exactly when the bit was 0. -/
theorem bitCodecReadsAndReplacesOneBit : Obligations.BitCodecReadsAndReplacesOneBit := by
  intro s w o v
  refine ⟨?_, ⟨setBit w o v, exec_setBit w o v s, setBit_getLsbD w o v⟩, ?_⟩
  · rw [exec_getBit, getBit_eq_getLsbD]
  · rw [setBit_setBit, setBit_eq_self_iff]

/-- Settles O23: both layouts read bits 7 to 0 in order, and `flagsWord` puts them back. -/
theorem decodersReadTheirBits : Obligations.DecodersReadTheirBits := by
  intro s r
  refine ⟨?_, ?_, encodeStatus_decodeStatus r, decodeStatus_encodeStatus, encodeISR_decodeISR r,
    decodeISR_encodeISR⟩
  · rw [exec_decodeStatus, decodeStatus_eq]
  · rw [exec_decodeISR, decodeISR_eq]

end Sys2Proof.Machine
end

section
/-! PROOFS. The transaction engine (44_transaction_engine.md R179 to R191): the rules of one engine step
whose access succeeds, each written on `afterAsk`; which step of which table an operation takes at a
label; the words it writes as transmit-FIFO entries; and the statements of the family. -/

namespace Sys2Proof.Machine

/-! ### What asking for the outcome leaves unchanged, continued -/

@[simp] theorem afterAsk_eng (s : State) : (afterAsk s).eng = s.eng := askFail_eng s
@[simp] theorem afterAsk_res (s : State) : (afterAsk s).res = s.res := askFail_res s

/-! ### One engine access that succeeds -/

/-- The low byte of a zero-extended byte is that byte: what `RD.ISR` yields, stored as `w[7:0]`. -/
theorem lowByte_setWidth (b : Byte) : lowByte (b.setWidth 32) = b := by
  refine BitVec.eq_of_getLsbD_eq fun k hk => ?_
  have hk32 : k < 32 := by omega
  simp [lowByte, hk, hk32]

/-- An engine read without side effect: the word is the one the register holds (R176). -/
theorem engRead_pure_ok {r : RdReg} {s : State} (k : Word → State → State) (hr : r ≠ .rxFifo)
    (hf : (askFail s).1 = false) : engRead r k s = k (portRead r s).1 (afterAsk s) := by
  rw [engRead_ok r k s hf, portRead_pure r _ hr]
  exact congrArg (k · (afterAsk s)) (portRead_word_afterAsk r s hr)

/-- An engine write: the port's write, then the rest of the step (R176). -/
theorem engWrite_afterAsk {s : State} (r : WrReg) (w : Word) (k : State → State)
    (hf : (askFail s).1 = false) : engWrite r w k s = k (portWrite r w (afterAsk s)) :=
  engWrite_ok r w k s hf

/-- A write of the transmit FIFO queues, discards or overflows as `pushEntry` says (R126). -/
theorem writeTxFifo_eq_pushEntry (w : Word) (s : State) :
    writeTxFifo w s = pushEntry (entryOfWord w) s := by
  unfold pushEntry
  rw [show s.cr.getLsbD 1 = crTxrst s.cr from rfl]
  cases hrst : crTxrst s.cr
  · by_cases hfull : s.txf.length = s.params.txDepth
    · rw [writeTxFifo_of_full w s hrst hfull]
      simp [hfull]
    · rw [writeTxFifo_of_room w s hrst hfull]
      simp [hfull]
  · rw [writeTxFifo_of_txrst w s hrst]
    simp

@[simp] theorem pushEntry_eng (e : Entry) (s : State) : (pushEntry e s).eng = s.eng := rfl

/-- An engine write of the transmit FIFO: the entry queued, then the rest of the step (R126). -/
theorem engWrite_txFifo_ok {s : State} (w : Word) (k : State → State)
    (hf : (askFail s).1 = false) :
    engWrite .txFifo w k s = k (pushEntry (entryOfWord w) (afterAsk s)) := by
  rw [engWrite_afterAsk _ _ _ hf, portWrite, writeTxFifo_eq_pushEntry]

/-- A step that queues one entry and goes on. -/
theorem engWrite_txFifo_goto {s : State} (w : Word) (next : Label) (hf : (askFail s).1 = false) :
    engWrite .txFifo w (goto next) s = { pushEntry (entryOfWord w) (afterAsk s) with
      eng := { s.eng with upc := next } } := by
  rw [engWrite_txFifo_ok w _ hf]
  simp [goto]

/-- A step that queues one entry, clears the loop index and goes on. -/
theorem engWrite_txFifo_clearIndex {s : State} (w : Word) (next : Label)
    (hf : (askFail s).1 = false) :
    engWrite .txFifo w (fun u => goto next (setI 0#8 u)) s =
      { pushEntry (entryOfWord w) (afterAsk s) with
        eng := { s.eng with i := 0#8, upc := next } } := by
  rw [engWrite_txFifo_ok w _ hf]
  simp [goto, setI]

/-- The reading half of a read-modify-write (R160). -/
theorem readCrStep_ok {s : State} (next : Label) (hf : (askFail s).1 = false) :
    readCrStep next s =
      { afterAsk s with eng := { s.eng with tmp := s.cr, upc := next } } := by
  rw [readCrStep, engRead_pure_ok _ (by decide) hf]
  simp [goto, setTmp, portRead]

/-- The writing half of a read-modify-write (R160). -/
theorem writeCrStep_ok {s : State} (bit : BitVec 5) (value : Bool) (leave : State → State)
    (hf : (askFail s).1 = false) :
    writeCrStep bit value leave s = leave (writeCr (setBit s.eng.tmp bit value) (afterAsk s)) :=
  engWrite_afterAsk _ _ _ hf

/-- A poll whose exit condition the flags of this instant meet (R181, R184, R188). -/
theorem pollStep_exits {s : State} (label : Label) {exits : StatusWord → Bool}
    (leave : State → State) (hf : (askFail s).1 = false) (hexit : exits (statusNow s) = true) :
    pollStep label exits leave s = leave (setSt (srWord s) (afterAsk s)) := by
  rw [pollStep, engRead_pure_ok _ (by decide) hf]
  simp [portRead, srWord, decodeStatus_encodeStatus, hexit]

/-- A poll whose exit condition they do not meet stays at its label (R181, R184, R188). -/
theorem pollStep_waits {s : State} (label : Label) {exits : StatusWord → Bool}
    (leave : State → State) (hf : (askFail s).1 = false) (hexit : exits (statusNow s) = false) :
    pollStep label exits leave s = goto label (setSt (srWord s) (afterAsk s)) := by
  rw [pollStep, engRead_pure_ok _ (by decide) hf]
  simp [portRead, srWord, decodeStatus_encodeStatus, hexit]

/-- A poll that goes on to a next label, where `stays` says of the controller that it does not. -/
theorem pollStep_goto {s : State} {exits : StatusWord → Bool} {stays : Prop} [Decidable stays]
    (label next : Label) (hf : (askFail s).1 = false)
    (hexit : exits (statusNow s) = false ↔ stays) :
    pollStep label exits (goto next) s = { afterAsk s with eng := { s.eng with
      st := (srWord s).extractLsb' 0 8, upc := if stays then label else next } } := by
  by_cases hstays : stays
  · rw [pollStep_waits label _ hf (hexit.mpr hstays)]
    simp [goto, setSt, lowByte, hstays]
  · rw [pollStep_exits label _ hf (by simpa [hstays] using hexit)]
    simp [goto, setSt, lowByte, hstays]

/-! ### The exit conditions in terms of the controller -/

/-- P14 is left when both FIFOs are empty and the bus is free (R181). -/
theorem prologueExit_statusNow (s : State) : prologueExit (statusNow s) = true ↔
    s.txf = [] ∧ s.rxf = [] ∧ ownBusy s.ls = false ∧ s.env.extBusy = false := by
  simp [prologueExit, statusNow, and_assoc]

/-- W2 is not left while an entry is queued and the bus is busy (R184). -/
theorem writeExit_statusNow (s : State) : writeExit (statusNow s) = false ↔
    s.txf ≠ [] ∧ (ownBusy s.ls = true ∨ s.env.extBusy = true) := by
  unfold writeExit statusNow
  cases ownBusy s.ls <;> simp

/-- G2 and S4 are not left while no byte waits (R188). -/
theorem receiveExit_statusNow (s : State) : receiveExit (statusNow s) = false ↔ s.rxf = [] := by
  simp [receiveExit, statusNow]

/-! ### The entries a transaction queues (30_encoding.md R93, R94, R101) -/

theorem entryOfWord_addrWord (address : Address) (read : Bool) :
    entryOfWord (addrWord address read) = startEntry address read := by
  refine BitVec.eq_of_getLsbD_eq fun k hk => ?_
  simp only [entryOfWord, addrWord, addrByte, startEntry, BitVec.getLsbD_append]
  interval_cases k <;> simp

theorem entryOfWord_dataWord (b : Byte) (last : Bool) : entryOfWord (dataWord b last) =
    if last then (2#2 ++ b : BitVec (2 + 8)) else (0#2 ++ b : BitVec (2 + 8)) := by
  refine BitVec.eq_of_getLsbD_eq fun k hk => ?_
  cases last
  · simp only [entryOfWord, dataWord, Bool.false_eq_true, if_false, BitVec.getLsbD_append]
    interval_cases k <;> simp
  · simp only [entryOfWord, dataWord, if_true, BitVec.getLsbD_append]
    interval_cases k <;> simp

/-- A register index is queued as a data byte that is not the last. -/
theorem entryOfWord_indexWord (regindex : Byte) :
    entryOfWord (indexWord regindex) = (0#2 ++ regindex : BitVec (2 + 8)) := by
  have hword : indexWord regindex = dataWord regindex false := BitVec.or_zero.symm
  rw [hword]
  exact entryOfWord_dataWord regindex false

/-- A count is queued as a last data byte. -/
theorem entryOfWord_countWord (count : Byte) :
    entryOfWord (countWord count) = (2#2 ++ count : BitVec (2 + 8)) := by
  have hword : countWord count = dataWord count true := BitVec.or_comm _ _
  rw [hword]
  exact entryOfWord_dataWord count true

/-! ### The loop index -/

theorem index_succ_toNat {i count : Byte} (h : i.toNat < count.toNat) :
    (i + 1#8).toNat = i.toNat + 1 := by
  bv_omega

/-- The engine writes the byte at index `i` as the last when `i + 1` is the count (R183). -/
theorem index_eq_last {i count : Byte} (h : i.toNat < count.toNat) :
    (i == count - 1#8) = decide (i.toNat + 1 = count.toNat) := by
  rw [beq_eq_decide, decide_eq_decide]
  bv_omega

/-- The end of a loop's body, the index below the count (R183, R188). -/
theorem countLoop_of_lt {s : State} {count : Byte} (again leave : Label)
    (h : s.eng.i.toNat < count.toNat) :
    countLoop count again leave s = { s with eng := { s.eng with
      i := s.eng.i + 1#8
      upc := if s.eng.i.toNat + 1 < count.toNat then again else leave } } := by
  simp [countLoop, goto, setI, index_succ_toNat h]

/-! ### The steps the two reads share -/

/-- The word an engine's read of the receive FIFO yields: the oldest byte in its low byte, where there
is one (R127). -/
theorem readRxFifo_word (s : State) (b : Byte) (rest : List Byte) (h : s.rxf = b :: rest) :
    lowByte (readRxFifo s).1 = b := by
  rw [readRxFifo_cons s b rest h]
  exact BitVec.extractLsb'_append_eq_right

/-- The state it leaves, whether a byte waits or not (R127). -/
theorem readRxFifo_state (s : State) : (readRxFifo s).2 = { s with
    rxf := s.rxf.tail, draws := s.draws + 1
    faults := if s.rxf = [] then withFault .rxUnderflow s.faults else s.faults } := by
  cases h : s.rxf with
  | nil => rw [readRxFifo_nil s h]; simp [h]
  | cons b rest => rw [readRxFifo_cons s b rest h]; simp

/-- A dequeue into `res.data[eng.i]` (R188). -/
theorem dequeueStep_ok {s : State} {count : Byte} (again leave : Label)
    (hf : (askFail s).1 = false) (h : s.eng.i.toNat < count.toNat) :
    dequeueStep count again leave s = { afterAsk s with
      rxf := s.rxf.tail, draws := (afterAsk s).draws + 1
      faults := if s.rxf = [] then withFault .rxUnderflow s.faults else s.faults
      res := { s.res with
        data := memWrite s.res.data s.eng.i.toNat (lowByte (readRxFifo (afterAsk s)).1) }
      eng := { s.eng with
        tmp := (readRxFifo (afterAsk s)).1
        i := s.eng.i + 1#8
        upc := if s.eng.i.toNat + 1 < count.toNat then again else leave } } := by
  have hread : portRead .rxFifo (askFail s).2 = readRxFifo (afterAsk s) := rfl
  rw [dequeueStep, engRead_ok _ _ _ hf, hread, readRxFifo_state,
    countLoop_of_lt _ _ (by simpa using h)]
  simp [setData, setTmp]

/-- The diagnostic read (R189). -/
theorem diagnosticStep_ok {s : State} (next : Label) (hf : (askFail s).1 = false) :
    diagnosticStep next s = { afterAsk s with
      eng := { s.eng with isr := s.isr, upc := next }, res := { s.res with isr := s.isr } } := by
  rw [diagnosticStep, engRead_pure_ok _ (by decide) hf]
  simp [goto, setEngIsr, lowByte_setWidth, portRead]

/-- What a dequeue puts into `res.data`: the byte read at the index, every other byte as before
(R188). -/
theorem dequeueStep_stores {s : State} {count : Byte} (again leave : Label)
    (hf : (askFail s).1 = false) (hwf : Memory.wf s.res.data)
    (h : s.eng.i.toNat < count.toNat) : ∃ (r : Word) (data : Memory),
      (∀ k, memRead data k =
        if k = s.eng.i.toNat then r.extractLsb' 0 8 else memRead s.res.data k) ∧
      (∀ b rest, s.rxf = b :: rest → r.extractLsb' 0 8 = b) ∧
      dequeueStep count again leave s = { afterAsk s with
        rxf := s.rxf.tail, draws := (afterAsk s).draws + 1
        faults := if s.rxf = [] then withFault .rxUnderflow s.faults else s.faults
        res := { s.res with data := data }
        eng := { s.eng with
          tmp := r, i := s.eng.i + 1#8
          upc := if s.eng.i.toNat + 1 < count.toNat then again else leave } } :=
  ⟨_, _, fun k => memRead_memWrite _ hwf _ k _,
    fun b rest hrxf => readRxFifo_word _ b rest (by rwa [afterAsk_rxf]),
    dequeueStep_ok again leave hf h⟩

/-! ### Which step an operation takes -/

theorem upc_of_atStep {i : Instr} {l : Label} {s : State} (h : AtStep i l s) : s.eng.upc = l :=
  h.2.2.1

theorem askFail_of_atStep {i : Instr} {l : Label} {s : State} (h : AtStep i l s) :
    (askFail s).1 = false :=
  h.2.2.2

/-- In its own step the engine runs the table of INIT, and so for the three transactions below. -/
theorem exec_initDevice_run {s : State} {l : Label} (h : AtStep .initDevice l s) :
    exec .initDevice s = prologueTable finish s :=
  command_runs _ _ s h.1 h.2.1

theorem exec_writeReg_run {s : State} {l : Label} {address : Address} {count : Byte}
    {data : List Byte} (h : AtStep (.writeReg address count data) l s) :
    exec (.writeReg address count data) s = writeRegTable address count data s :=
  command_runs _ _ s h.1 h.2.1

theorem exec_readReg_run {s : State} {l : Label} {address : Address} {count : Byte}
    (h : AtStep (.readReg address count) l s) :
    exec (.readReg address count) s = readRegTable address count s :=
  command_runs _ _ s h.1 h.2.1

theorem exec_readRegSel_run {s : State} {l : Label} {address : Address} {regindex count : Byte}
    (h : AtStep (.readRegSel address regindex count) l s) :
    exec (.readRegSel address regindex count) s = readRegSelTable address regindex count s :=
  command_runs _ _ s h.1 h.2.1

/-- A transaction stands in the prologue until that is done (R179). -/
theorem writeRegTable_prologue {s : State} (address : Address) (count : Byte) (data : List Byte)
    (h : s.eng.upc ∈ prologueLabels) :
    writeRegTable address count data s = prologueTable (goto .w0) s := by
  unfold writeRegTable
  split
  case h_7 => rfl
  all_goals next hupc => simp [hupc, prologueLabels] at h

theorem readRegTable_prologue {s : State} (address : Address) (count : Byte)
    (h : s.eng.upc ∈ prologueLabels) :
    readRegTable address count s = prologueTable (goto .g0) s := by
  unfold readRegTable
  split
  case h_8 => rfl
  all_goals next hupc => simp [hupc, prologueLabels] at h

theorem readRegSelTable_prologue {s : State} (address : Address) (regindex count : Byte)
    (h : s.eng.upc ∈ prologueLabels) :
    readRegSelTable address regindex count s = prologueTable (goto .s0) s := by
  unfold readRegSelTable
  split
  case h_10 => rfl
  all_goals next hupc => simp [hupc, prologueLabels] at h

/-- What follows P14: INIT ends, a transaction goes to its first own label (R179). -/
def continuation (i : Instr) : State → State :=
  if i = .initDevice then finish else goto (afterPrologue i)

/-- At a label of the prologue the four operations that run it take its step (R179). -/
theorem exec_prologue {s : State} {i : Instr} {l : Label} (hi : .p0 ∈ stepLabels i)
    (hl : l ∈ prologueLabels) (h : AtStep i l s) :
    exec i s = prologueTable (continuation i) s := by
  rw [← upc_of_atStep h] at hl
  cases i
  case initDevice => exact exec_initDevice_run h
  case writeReg => exact (exec_writeReg_run h).trans (writeRegTable_prologue _ _ _ hl)
  case readReg => exact (exec_readReg_run h).trans (readRegTable_prologue _ _ hl)
  case readRegSel => exact (exec_readRegSel_run h).trans (readRegSelTable_prologue _ _ _ hl)
  all_goals simp [stepLabels] at hi

/-- The five labels at which the prologue reads CR, each with the label after it. -/
theorem exec_prologue_readCr {s : State} {i : Instr} {l m : Label} (hi : .p0 ∈ stepLabels i)
    (hlm : (l, m) ∈ [(Label.p2, Label.p3), (.p4, .p5), (.p8, .p9), (.p10, .p11), (.p12, .p13)])
    (h : AtStep i l s) : exec i s = .next (readCrStep m s) := by
  simp only [List.mem_cons, Prod.mk.injEq, List.not_mem_nil, or_false] at hlm
  rcases hlm with ⟨rfl, rfl⟩ | ⟨rfl, rfl⟩ | ⟨rfl, rfl⟩ | ⟨rfl, rfl⟩ | ⟨rfl, rfl⟩ <;>
    rw [exec_prologue hi (by decide) h, prologueTable, upc_of_atStep h]

/-- The five labels at which it writes CR, each with the bit, its value and the label after it. -/
theorem exec_prologue_writeCr {s : State} {i : Instr} {l m : Label} {b : BitVec 5} {v : Bool}
    (hi : .p0 ∈ stepLabels i)
    (hlm : (l, b, v, m) ∈ [(Label.p3, 1#5, true, Label.p4), (.p5, 1#5, false, .p6),
      (.p9, 0#5, true, .p10), (.p11, 6#5, false, .p12), (.p13, 1#5, false, .p14)])
    (h : AtStep i l s) : exec i s = .next (writeCrStep b v (goto m) s) := by
  simp only [List.mem_cons, Prod.mk.injEq, List.not_mem_nil, or_false] at hlm
  rcases hlm with ⟨rfl, rfl, rfl, rfl⟩ | ⟨rfl, rfl, rfl, rfl⟩ | ⟨rfl, rfl, rfl, rfl⟩ |
    ⟨rfl, rfl, rfl, rfl⟩ | ⟨rfl, rfl, rfl, rfl⟩ <;>
    rw [exec_prologue hi (by decide) h, prologueTable, upc_of_atStep h] <;> rfl

/-- Where an operation stands when its prologue is done (R179). -/
theorem continuation_eq {i : Instr} {u : State} (hm : u.eng.mode = .run) (hupc : u.eng.upc = .p14) :
    continuation i u = { u with eng := { u.eng with
      upc := afterPrologue i, mode := if i = .initDevice then .idle else .run } } := by
  unfold continuation
  split
  case isTrue h => subst h; simp [finish, afterPrologue, hupc]
  case isFalse h => simp [goto, hm]

/-! ### The statements -/

/-- Settles O33: one entry per step, the byte the last exactly when the next index is the count. -/
theorem writeEnqueueSteps : Obligations.WriteEnqueueSteps := by
  intro s address count data
  refine ⟨fun h => ?w0, fun b h hb hi => ?w1⟩
  all_goals
    rw [exec_writeReg_run h]
    obtain ⟨-, -, hupc, hf⟩ := h
    simp only [writeRegTable, hupc]
  case w0 => rw [engWrite_txFifo_clearIndex _ _ hf, entryOfWord_addrWord]
  case w1 =>
    have hbyte : data.getD s.eng.i.toNat 0#8 = b := by simp [hb]
    rw [engWrite_txFifo_ok _ _ hf, countLoop_of_lt _ _ (by simpa using hi), hbyte,
      index_eq_last hi, entryOfWord_dataWord]
    simp

/-- Settles O34: the poll by its exit condition, then three accesses. -/
theorem writeEpilogueSteps : Obligations.WriteEpilogueSteps := by
  intro s address count data
  refine ⟨fun h => ?w2, fun h => ?w3, fun h => ?w4, fun h => ⟨_, rfl, ?w5⟩⟩
  all_goals
    rw [exec_writeReg_run h]
    obtain ⟨-, -, hupc, hf⟩ := h
    simp only [writeRegTable, hupc]
  case w2 => rw [pollStep_goto _ _ hf (writeExit_statusNow s)]
  case w3 =>
    rw [engRead_pure_ok _ (by decide) hf]
    simp [goto, setEngIsr, portRead, lowByte_setWidth]
  case w4 => rw [readCrStep_ok _ hf]
  case w5 =>
    rw [writeCrStep_ok _ _ _ hf]
    simp [finish, decodeISR_eq, crEnBit, hupc]

/-- Settles O35: one entry per step, two for a plain read and four for a selected one. -/
theorem readEnqueueSteps : Obligations.ReadEnqueueSteps := by
  intro s address regindex count
  refine ⟨fun h => ?g0, fun h => ?g1, fun h => ?s0, fun h => ?s1, fun h => ?s2, fun h => ?s3⟩
  case' g0 | g1 => rw [exec_readReg_run h]
  case' s0 | s1 | s2 | s3 => rw [exec_readRegSel_run h]
  all_goals
    obtain ⟨-, -, hupc, hf⟩ := h
    simp only [readRegTable, readRegSelTable, hupc]
  case g0 | s0 | s2 => rw [engWrite_txFifo_goto _ _ hf, entryOfWord_addrWord]
  case s1 => rw [engWrite_txFifo_goto _ _ hf, entryOfWord_indexWord]
  case g1 | s3 => rw [engWrite_txFifo_clearIndex _ _ hf, entryOfWord_countWord]

/-- Settles O36: in either read the poll and the dequeue are the same two steps. -/
theorem receiveLoopSteps : Obligations.ReceiveLoopSteps := by
  intro s i poll take leave hread
  obtain ⟨count, hcount, hpoll, htake⟩ : ∃ count : Byte, transferCount i = count.toNat ∧
      (AtStep i poll s → exec i s = .next (pollStep poll receiveExit (goto take) s)) ∧
      (AtStep i take s → exec i s = .next (dequeueStep count poll leave s)) := by
    rcases hread with ⟨address, count, rfl, hlabels⟩ | ⟨address, regindex, count, rfl, hlabels⟩ <;>
      cases hlabels
    · refine ⟨count, rfl, fun h => ?_, fun h => ?_⟩ <;>
        rw [exec_readReg_run h, readRegTable, upc_of_atStep h]
    · refine ⟨count, rfl, fun h => ?_, fun h => ?_⟩ <;>
        rw [exec_readRegSel_run h, readRegSelTable, upc_of_atStep h]
  rw [hcount]
  refine ⟨fun h => ?_, fun h hwf hi => ?_⟩
  · rw [hpoll h, pollStep_goto _ _ (askFail_of_atStep h) (receiveExit_statusNow s)]
  · simp only [htake h, Host.Outcome.next.injEq]
    exact dequeueStep_stores _ _ (askFail_of_atStep h) hwf hi

/-- Settles O37: in either read the epilogue is the same three steps. -/
theorem readEpilogueSteps : Obligations.ReadEpilogueSteps := by
  intro s i diag readCr writeCrL hread
  obtain ⟨hdiag, hreadCr, hwriteCr⟩ :
      (AtStep i diag s → exec i s = .next (diagnosticStep readCr s)) ∧
      (AtStep i readCr s → exec i s = .next (readCrStep writeCrL s)) ∧
      (AtStep i writeCrL s → exec i s = .next (writeCrStep crEnBit false finish s)) := by
    rcases hread with ⟨address, count, rfl, hlabels⟩ | ⟨address, regindex, count, rfl, hlabels⟩ <;>
      cases hlabels
    · refine ⟨fun h => ?_, fun h => ?_, fun h => ?_⟩ <;>
        rw [exec_readReg_run h, readRegTable, upc_of_atStep h]
    · refine ⟨fun h => ?_, fun h => ?_, fun h => ?_⟩ <;>
        rw [exec_readRegSel_run h, readRegSelTable, upc_of_atStep h]
  refine ⟨fun h => ?_, fun h => ?_, fun h => ?_⟩
  · rw [hdiag h, diagnosticStep_ok _ (askFail_of_atStep h)]
  · rw [hreadCr h, readCrStep_ok _ (askFail_of_atStep h)]
  · rw [hwriteCr h, writeCrStep_ok _ _ _ (askFail_of_atStep h), crEnBit]

/-- Settles O31: the ten accesses to CR by two rules, the poll by its exit condition. -/
theorem prologueStepTable : Obligations.PrologueStepTable := by
  refine ⟨rfl, fun s i hi => ⟨fun h => ?p0, fun h => ?p1,
    fun l m hlm h => ?readsCr, fun l b v m hlm h => ?writesCr,
    fun h => ?p6, fun h => ?p7, fun h hexit => ?leaves, fun h hexit => ?stays⟩⟩
  case readsCr => rw [exec_prologue_readCr hi hlm h, readCrStep_ok _ (askFail_of_atStep h)]
  case writesCr =>
    rw [exec_prologue_writeCr hi hlm h, writeCrStep_ok _ _ _ (askFail_of_atStep h)]
  all_goals
    rw [exec_prologue hi (by decide) h]
    obtain ⟨hm, -, hupc, hf⟩ := h
    simp only [prologueTable, hupc]
  case p0 => rw [engWrite_afterAsk _ _ _ hf, portWrite, writeSoftr, if_pos rfl]
  case p1 =>
    rw [engWrite_afterAsk _ _ _ hf]
    simp [goto, portWrite]
  case p6 =>
    rw [engRead_pure_ok _ (by decide) hf]
    simp [goto, setTmp, portRead]
  case p7 =>
    rw [engWrite_afterAsk _ _ _ hf]
    simp [goto, portWrite, lowByte]
  case leaves =>
    rw [pollStep_exits _ _ hf ((prologueExit_statusNow s).mpr hexit),
      continuation_eq (by simpa using hm) (by simpa using hupc)]
    simp [setSt, lowByte]
  case stays =>
    rw [pollStep_waits _ _ hf (by simpa [← prologueExit_statusNow] using hexit)]
    simp [goto, setSt, lowByte, hupc]

end Sys2Proof.Machine
end

section
/-! PROOFS. The bus side (45_bus_side.md R211 to R224): the step each line state enables, the
effect of each step in terms of the registers, and the statements of the family. -/

namespace Sys2Proof.Machine

/-! ### Which step is enabled -/

/-- An Idle line takes a start entry as soon as the bus is free (R212). -/
theorem lineMove_idle_start {s : State} {e : Entry} {rest : List Entry} (hls : s.ls = .idle)
    (htxf : s.txf = e :: rest) (hstart : e.getLsbD 8 = true) :
    lineMove s = if s.env.extBusy then none else some (.popStart e) := by
  simp [lineMove, hls, htxf, entryStart, hstart]

/-- A line that waits for an entry takes one as a repeated start or as data (R213, R214). -/
theorem lineMove_txWait {s : State} {e : Entry} {rest : List Entry} (hls : s.ls = .txWait)
    (htxf : s.txf = e :: rest) :
    lineMove s = if e.getLsbD 8 then some (.popRepStart e) else some (.popData e) := by
  simp [lineMove, hls, htxf, entryStart]

/-- A line that waits for a count takes a count entry (R215); any other is a framing fault (R216). -/
theorem lineMove_rxCountWait {s : State} {e : Entry} {rest : List Entry}
    (hls : s.ls = .rxCountWait) (htxf : s.txf = e :: rest) :
    lineMove s = if countEntry e then some (.popCount e) else some (.framing e) := by
  simp [lineMove, hls, htxf]

/-- Without an entry the three line states that take one wait (R212, R214, R225). -/
theorem lineMove_of_txf_nil {s : State}
    (hls : s.ls = .idle ∨ s.ls = .txWait ∨ s.ls = .rxCountWait) (htxf : s.txf = []) :
    lineMove s = none := by
  rcases hls with hls | hls | hls <;> simp [lineMove, hls, htxf]

/-- A receiving line goes on exactly while the receive FIFO has room (R220). -/
theorem lineMove_rx {s : State} {n : Nat} (hls : s.ls = .rx n) :
    lineMove s = if s.rxf.length < s.params.rxDepth then some (.recv n) else none := by
  simp [lineMove, hls]

theorem lineMove_stopping {s : State} {halt : Bool} (hls : s.ls = .stopping halt) :
    lineMove s = some (.stop halt) := by
  simp [lineMove, hls]

theorem lineMove_halted {s : State} (hls : s.ls = .halted) : lineMove s = none := by
  simp [lineMove, hls]

/-- An entry without start flag, with stop flag and a count other than 0, is a count entry (R215). -/
theorem countEntry_eq_true {e : Entry} (hstart : e.getLsbD 8 = false) (hstop : e.getLsbD 9 = true)
    (hcount : e.extractLsb' 0 8 ≠ 0#8) : countEntry e = true := by
  rw [countEntry, entryStart, entryStop, entryData, hstart, hstop, Bool.not_false, Bool.true_and,
    Bool.true_and, bne_iff_ne]
  exact hcount

/-! ### The turn of an enabled bus side -/

theorem busStep_of_lineMove {s : State} {m : BusMove} (hon : BusOn s) (hm : lineMove s = some m) :
    busStep s = .next (doMove m s) := by
  rw [busStep_on s hon, hm]

theorem busStep_of_lineMove_none {s : State} (hon : BusOn s) (hm : lineMove s = none) :
    busStep s = .next s := by
  rw [busStep_on s hon, hm]

/-- A line state that enables no step leaves the bus side quiescent (R211). -/
theorem quiescent_of_lineMove_none {s : State} (hm : lineMove s = none) : Quiescent s := by
  rw [Quiescent, busMove, hm, ite_self]

/-- Waiting: no step is enabled and the turn changes nothing. -/
theorem waits_of_lineMove_none {s : State} (hon : BusOn s) (hm : lineMove s = none) :
    Quiescent s ∧ ∀ t, busStep s = .next t → t = s := by
  refine ⟨quiescent_of_lineMove_none hm, fun t ht => ?_⟩
  rw [busStep_of_lineMove_none hon hm] at ht
  exact (Host.Outcome.next.inj ht).symm

/-! ### The effects of the steps -/

/-- `PopTX()`: the head leaves, tx_empty and tx_half by the length left (R224). -/
theorem popTx_eq {s : State} {e : Entry} {rest : List Entry} (htxf : s.txf = e :: rest) :
    popTx s = { s with txf := rest, isr := isrAfterPop s rest } := by
  have hisr : (popTx s).isr = isrAfterPop s rest := by
    simp only [popTx, raiseFlag_isr, raiseFlag_txf, raiseFlag_params, isrAfterPop, flagTxEmpty,
      flagTxHalf, htxf, List.tail_cons, beq_iff_eq, List.length_eq_zero_iff]
    split <;> split <;> simp
  rw [← hisr, popTx, htxf]
  rfl

/-- An event that no device reacts to leaves the environment as it is; a start and a repeated start
are such events (R230). -/
theorem observe_of_unseen {ev : BusEvent} (env : Environment) (hev : ∀ d, simObserve ev d = d) :
    observe ev env = env := by
  have hid : simObserve ev = id := funext hev
  cases env with
  | mk extBusy oracle acks rbytes losts fails => cases oracle <;> simp [observe, hid]

theorem emit_of_unseen {ev : BusEvent} (s : State) (hev : ∀ d, simObserve ev d = d) :
    emit ev s = { s with trace := s.trace ++ [ev] } := by
  rw [emit, observe_of_unseen _ hev]

/-- `Recv`: the byte appended, rx_full at the threshold, all but the last acknowledged (R220). -/
theorem recv_eq {s u : State} {b : Byte} (n : Nat) (hask : askByte s = (b, u)) :
    recv n s = { u with
      rxf := s.rxf ++ [b]
      isr := if s.rxPirq.toNat + 1 ≤ s.rxf.length + 1 then s.isr ||| 0x08#8 else s.isr
      trace := s.trace ++ [.rxb b (decide (1 < n))]
      env := observe (.rxb b (decide (1 < n))) u.env
      ls := if 1 < n then .rx (n - 1) else .stopping false } := by
  obtain rfl : (askByte s).2 = u := by rw [hask]
  obtain rfl : (askByte s).1 = b := by rw [hask]
  simp [recv, raiseFlag, emit, flagRxFull]

/-- A byte being sent is lost where the environment answers LOST (R219). -/
theorem orLost_of_lost {s u : State} (done : State → State) (hlost : askLost s = (true, u)) :
    orLost done s = loseArbitration u := by
  simp [orLost, hlost]

/-- LOST is answered only where there are several masters (R219). -/
theorem multiMaster_of_lost {s u : State} (hlost : askLost s = (true, u)) :
    s.params.multiMaster = true := by
  by_contra hsingle
  simp [askLost_of_single s (Bool.eq_false_iff.mpr hsingle)] at hlost

theorem busStep_of_lost {s u : State} {b : Byte} {stop : Bool} (hon : BusOn s)
    (hls : s.ls = .sendAddr b stop ∨ s.ls = .sendData b stop) (hlost : askLost s = (true, u)) :
    busStep s = .next (loseArbitration u) := by
  rcases hls with hls | hls
  · have hmove : lineMove s = some (.addrDone b stop) := by simp [lineMove, hls]
    rw [busStep_of_lineMove hon hmove, doMove, orLost_of_lost _ hlost]
  · have hmove : lineMove s = some (.dataDone b stop) := by simp [lineMove, hls]
    rw [busStep_of_lineMove hon hmove, doMove, orLost_of_lost _ hlost]

@[simp] theorem loseArbitration_trace (s : State) :
    (loseArbitration s).trace = s.trace ++ [.lost] := rfl

@[simp] theorem loseArbitration_ls (s : State) : (loseArbitration s).ls = .halted := rfl

@[simp] theorem loseArbitration_extBusy (s : State) :
    (loseArbitration s).env.extBusy = true := rfl

theorem loseArbitration_isr (s : State) : (loseArbitration s).isr =
    s.isr ||| (if s.params.arbLostSetsError then 0x03#8 else 0x01#8) := by
  cases h : s.params.arbLostSetsError <;>
    simp [loseArbitration, flagArbLost, flagError, h, BitVec.or_assoc]

/-! ### The statements -/

/-- Settles O48: the lost arbitration is the step of either sending line state, and only several
masters make the environment answer LOST. -/
theorem arbitrationLossHaltsTheBus : Obligations.ArbitrationLossHaltsTheBus := by
  refine ⟨fun s u b stop hon hls hlost => ?_, askLost_of_single⟩
  refine ⟨_, busStep_of_lost hon hls hlost, multiMaster_of_lost hlost, ?_⟩
  obtain rfl : (askLost s).2 = u := by rw [hlost]
  simp [loseArbitration_isr]

/-- Settles O45: the step the line state and the head entry enable, each a `PopTX()`; without a step
the bus side waits. -/
theorem busTakesEntriesInOrder : Obligations.BusTakesEntriesInOrder := by
  refine fun s hon => ⟨fun e rest htxf => ⟨fun hls hstart hfree => ?popStart,
    fun hls hstart hheld => ?busHeld, fun hls hstart => ?popRepStart, fun hls hstart => ?popData,
    fun hls hstart hstop hcount => ?popCount⟩, fun hls htxf => ?noEntry⟩
  case busHeld =>
    exact waits_of_lineMove_none hon (by rw [lineMove_idle_start hls htxf hstart, if_pos hheld])
  case noEntry =>
    obtain ⟨hquiet, hstays⟩ := waits_of_lineMove_none hon (lineMove_of_txf_nil hls htxf)
    refine ⟨hquiet, hstays, ?_⟩
    rcases hls with hls | hls | hls <;> rw [hls] <;> rfl
  case popStart =>
    have hmove : lineMove s = some (.popStart e) := by
      simp [lineMove_idle_start hls htxf hstart, hfree]
    rw [busStep_of_lineMove hon hmove, doMove, popTx_eq htxf, emit_of_unseen _ fun _ => rfl]
    rfl
  case popRepStart =>
    have hmove : lineMove s = some (.popRepStart e) := by
      rw [lineMove_txWait hls htxf, if_pos hstart]
    rw [busStep_of_lineMove hon hmove, doMove, popTx_eq htxf, emit_of_unseen _ fun _ => rfl]
    rfl
  case popData =>
    have hmove : lineMove s = some (.popData e) := by
      rw [lineMove_txWait hls htxf, hstart, if_neg Bool.false_ne_true]
    rw [busStep_of_lineMove hon hmove, doMove, popTx_eq htxf]
    rfl
  case popCount =>
    have hmove : lineMove s = some (.popCount e) := by
      rw [lineMove_rxCountWait hls htxf, if_pos (countEntry_eq_true hstart hstop hcount)]
    rw [busStep_of_lineMove hon hmove, doMove, popTx_eq htxf]
    rfl

/-- Settles O49: one step per line state; a full receive FIFO and Halted enable none. -/
theorem receiveStopAndHalt : Obligations.ReceiveStopAndHalt := by
  refine fun s hon => ⟨fun n b u hls hroom hask => ?_, fun n hls hfull => ?_, fun halt hls => ?_,
    fun hls => busStep_of_lineMove_none hon (lineMove_halted hls)⟩
  · have hmove : lineMove s = some (.recv n) := by rw [lineMove_rx hls, if_pos hroom]
    rw [busStep_of_lineMove hon hmove, doMove, recv_eq n hask]
  · exact busStep_of_lineMove_none hon (by rw [lineMove_rx hls, if_neg (Nat.not_lt.mpr hfull)])
  · rw [busStep_of_lineMove hon (lineMove_stopping hls)]
    rfl

end Sys2Proof.Machine
end

section
/-! PROOFS. The decoder and the encoder (30_encoding.md R91, R96 to R100): the fields of an assembled
word, each format taken apart and put together, and the statements on encodings. -/

namespace Sys2Proof.Machine

/-! ### The fields of a command word (R96) -/

/-- Bit `k` of a word put together from four bytes, the lowest byte first. -/
theorem cmdWord_getLsbD (op f1 f2 f3 : Byte) (k : Nat) : (cmdWord op f1 f2 f3).getLsbD k =
    if k < 8 then f3.getLsbD k else if k < 16 then f2.getLsbD (k - 8)
      else if k < 24 then f1.getLsbD (k - 16) else op.getLsbD (k - 24) := by
  simp only [cmdWord, BitVec.getLsbD_append]
  grind

theorem cmdOp_cmdWord (op f1 f2 f3 : Byte) : cmdOp (cmdWord op f1 f2 f3) = op :=
  BitVec.eq_of_getLsbD_eq fun k hk => by
    simp only [cmdOp, BitVec.getLsbD_extractLsb', cmdWord_getLsbD]
    grind

theorem cmdCount_cmdWord (op f1 f2 f3 : Byte) : cmdCount (cmdWord op f1 f2 f3) = f1 :=
  BitVec.eq_of_getLsbD_eq fun k hk => by
    simp only [cmdCount, BitVec.getLsbD_extractLsb', cmdWord_getLsbD]
    grind

theorem cmdRegindex_cmdWord (op f1 f2 f3 : Byte) : cmdRegindex (cmdWord op f1 f2 f3) = f2 :=
  BitVec.eq_of_getLsbD_eq fun k hk => by
    simp only [cmdRegindex, BitVec.getLsbD_extractLsb', cmdWord_getLsbD]
    grind

/-- A field that is zero, bit by bit. -/
theorem extractLsb'_eq_zero_iff (w : Word) (start len : Nat) :
    w.extractLsb' start len = 0#len ↔
      ∀ k, start ≤ k → k < start + len → w.getLsbD k = false := by
  constructor
  · intro h k hlo hhi
    have hbit := congrArg (·.getLsbD (k - start)) h
    simpa [hlo, show k - start < len by omega] using hbit
  · intro h
    refine BitVec.eq_of_getLsbD_eq fun k hk => ?_
    simp [hk, h (start + k) (by omega) (by omega)]

/-! ### The must-be-zero bits of the formats (R97) -/

theorem addressField_getLsbD (a : Address) (k : Nat) :
    (addressField a).getLsbD k = a.getLsbD k := by
  simp only [addressField, BitVec.getLsbD_append]
  grind

theorem flagsField_getLsbD (isStart isStop : Bool) (k : Nat) :
    (flagsField isStart isStop).getLsbD k =
      if k = 0 then isStart else if k = 1 then isStop else false := by
  simp only [flagsField, BitVec.getLsbD_append]
  grind

/-- Format C0: nothing but the opcode. -/
theorem zeroC0_iff (w : Word) : zeroC0 w = true ↔ w = cmdWord (cmdOp w) 0#8 0#8 0#8 := by
  rw [zeroC0, beq_iff_eq, extractLsb'_eq_zero_iff]
  constructor
  · intro h
    refine BitVec.eq_of_getLsbD_eq fun k hk => ?_
    simp only [cmdWord_getLsbD, cmdOp, BitVec.getLsbD_extractLsb']
    grind
  · intro h k hlo hhi
    rw [h, cmdWord_getLsbD]
    grind

/-- Format CE: the two flags above the byte. -/
theorem zeroCE_iff (w : Word) : zeroCE w = true ↔
    w = cmdWord (cmdOp w) (flagsField (w.getLsbD 16) (w.getLsbD 17)) (cmdRegindex w) 0#8 := by
  simp only [zeroCE, Bool.and_eq_true, beq_iff_eq, extractLsb'_eq_zero_iff]
  constructor
  · intro h
    refine BitVec.eq_of_getLsbD_eq fun k hk => ?_
    simp only [cmdWord_getLsbD, cmdOp, cmdRegindex, BitVec.getLsbD_extractLsb', flagsField_getLsbD]
    grind
  · intro h
    constructor
    all_goals
      intro k hlo hhi
      rw [h, cmdWord_getLsbD, flagsField_getLsbD]
      grind

/-- Format CA: the address below nine zero bits. -/
theorem zeroCA_iff (w : Word) : zeroCA w = true ↔
    w = cmdWord (cmdOp w) (cmdCount w) 0#8 (addressField (cmdAddress w)) := by
  rw [zeroCA, beq_iff_eq, extractLsb'_eq_zero_iff]
  constructor
  · intro h
    refine BitVec.eq_of_getLsbD_eq fun k hk => ?_
    simp only [cmdWord_getLsbD, cmdOp, cmdCount, cmdAddress, addressField_getLsbD,
      BitVec.getLsbD_extractLsb']
    grind
  · intro h k hlo hhi
    rw [h, cmdWord_getLsbD, addressField_getLsbD]
    grind

/-- Format CS: the address below one zero bit. -/
theorem zeroCS_iff (w : Word) : zeroCS w = true ↔
    w = cmdWord (cmdOp w) (cmdCount w) (cmdRegindex w) (addressField (cmdAddress w)) := by
  rw [zeroCS, beq_iff_eq, extractLsb'_eq_zero_iff]
  constructor
  · intro h
    refine BitVec.eq_of_getLsbD_eq fun k hk => ?_
    simp only [cmdWord_getLsbD, cmdOp, cmdCount, cmdRegindex, cmdAddress, addressField_getLsbD,
      BitVec.getLsbD_extractLsb']
    grind
  · intro h k hlo hhi
    rw [h, cmdWord_getLsbD, addressField_getLsbD]
    grind

theorem cmdAddress_cmdWord (op f1 f2 : Byte) (a : Address) :
    cmdAddress (cmdWord op f1 f2 (addressField a)) = a :=
  BitVec.eq_of_getLsbD_eq fun k hk => by
    simp only [cmdAddress, BitVec.getLsbD_extractLsb', cmdWord_getLsbD, addressField_getLsbD]
    grind

theorem cmdFlags_cmdWord (op f2 f3 : Byte) (isStart isStop : Bool) :
    (cmdWord op (flagsField isStart isStop) f2 f3).getLsbD 16 = isStart ∧
      (cmdWord op (flagsField isStart isStop) f2 f3).getLsbD 17 = isStop := by
  rw [cmdWord_getLsbD, cmdWord_getLsbD, flagsField_getLsbD, flagsField_getLsbD]
  exact ⟨rfl, rfl⟩

/-! ### The rows of the command table (R99) -/

/-- An operand-free command: well formed, without payload, and encoded as its opcode alone. -/
theorem encode_of_c0OfOp {op : Byte} {i : Instr} (h : c0OfOp op = some i) :
    i.wf = true ∧ i.kind = .command ∧ encode i = some (cmdC0 op) ∧
      ∀ payload, payloadAdmitted i payload = payload.isEmpty := by
  unfold c0OfOp at h
  repeat
    rcases ite_eq_iff.mp h with ⟨rfl, h⟩ | ⟨-, h⟩
    · cases h; exact ⟨rfl, rfl, rfl, fun _ => rfl⟩
  cases h

/-- The word of an operand-free command is its row. -/
theorem decode_cmdC0 {op : Byte} {i : Instr} (h : c0OfOp op = some i) :
    decode (cmdC0 op) = .ok i := by
  obtain ⟨hwf, -, -, hpayload⟩ := encode_of_c0OfOp h
  have hop : cmdOp (cmdWord op 0#8 0#8 0#8) = op := cmdOp_cmdWord ..
  have hzero : zeroC0 (cmdWord op 0#8 0#8 0#8) = true := by rw [zeroC0_iff, hop]
  simp [cmdC0, decode, decodeCmd, cmdRow, hop, h, hzero, hwf, hpayload]

theorem decode_enqueueWord (byte : Byte) (isStart isStop : Bool) :
    decode (.cmd (cmdWord 0x20#8 (flagsField isStart isStop) byte 0#8) []) =
      .ok (.enqueueWord byte isStart isStop) := by
  obtain ⟨hstart, hstop⟩ := cmdFlags_cmdWord 0x20#8 byte 0#8 isStart isStop
  have hop : cmdOp (cmdWord 0x20#8 (flagsField isStart isStop) byte 0#8) = 0x20#8 :=
    cmdOp_cmdWord ..
  have hbyte : cmdRegindex (cmdWord 0x20#8 (flagsField isStart isStop) byte 0#8) = byte :=
    cmdRegindex_cmdWord ..
  have hzero : zeroCE (cmdWord 0x20#8 (flagsField isStart isStop) byte 0#8) = true := by
    rw [zeroCE_iff, hop, hbyte, hstart, hstop]
  have hrow : cmdRow (cmdWord 0x20#8 (flagsField isStart isStop) byte 0#8) [] =
      some (.enqueueWord byte isStart isStop) := by
    simp only [cmdRow, hop, hzero, hbyte, hstart, hstop]
    rfl
  simp [decode, decodeCmd, hrow, Instr.wf, payloadAdmitted]

theorem decode_writeReg {address : Address} {count : Byte} {data : List Byte}
    (h : (Instr.writeReg address count data).wf = true) :
    decode (.cmd (cmdWord 0x31#8 count 0#8 (addressField address)) data) =
      .ok (.writeReg address count data) := by
  have hop : cmdOp (cmdWord 0x31#8 count 0#8 (addressField address)) = 0x31#8 := cmdOp_cmdWord ..
  have hcount : cmdCount (cmdWord 0x31#8 count 0#8 (addressField address)) = count :=
    cmdCount_cmdWord ..
  have haddress := cmdAddress_cmdWord 0x31#8 count 0#8 address
  have hzero : zeroCA (cmdWord 0x31#8 count 0#8 (addressField address)) = true := by
    rw [zeroCA_iff, hop, hcount, haddress]
  have hrow : cmdRow (cmdWord 0x31#8 count 0#8 (addressField address)) data =
      some (.writeReg address count data) := by
    simp [cmdRow, hop, hzero, hcount, haddress, c0OfOp]
  simp [decode, decodeCmd, hrow, h, payloadAdmitted]

theorem decode_readReg {address : Address} {count : Byte}
    (h : (Instr.readReg address count).wf = true) :
    decode (.cmd (cmdWord 0x32#8 count 0#8 (addressField address)) []) =
      .ok (.readReg address count) := by
  have hop : cmdOp (cmdWord 0x32#8 count 0#8 (addressField address)) = 0x32#8 := cmdOp_cmdWord ..
  have hcount : cmdCount (cmdWord 0x32#8 count 0#8 (addressField address)) = count :=
    cmdCount_cmdWord ..
  have haddress := cmdAddress_cmdWord 0x32#8 count 0#8 address
  have hzero : zeroCA (cmdWord 0x32#8 count 0#8 (addressField address)) = true := by
    rw [zeroCA_iff, hop, hcount, haddress]
  have hrow : cmdRow (cmdWord 0x32#8 count 0#8 (addressField address)) [] =
      some (.readReg address count) := by
    simp [cmdRow, hop, hzero, hcount, haddress, c0OfOp]
  simp [decode, decodeCmd, hrow, h, payloadAdmitted]

theorem decode_readRegSel {address : Address} {regindex count : Byte}
    (h : (Instr.readRegSel address regindex count).wf = true) :
    decode (.cmd (cmdWord 0x33#8 count regindex (addressField address)) []) =
      .ok (.readRegSel address regindex count) := by
  have hop : cmdOp (cmdWord 0x33#8 count regindex (addressField address)) = 0x33#8 :=
    cmdOp_cmdWord ..
  have hcount : cmdCount (cmdWord 0x33#8 count regindex (addressField address)) = count :=
    cmdCount_cmdWord ..
  have hindex : cmdRegindex (cmdWord 0x33#8 count regindex (addressField address)) = regindex :=
    cmdRegindex_cmdWord ..
  have haddress := cmdAddress_cmdWord 0x33#8 count regindex address
  have hzero : zeroCS (cmdWord 0x33#8 count regindex (addressField address)) = true := by
    rw [zeroCS_iff, hop, hcount, hindex, haddress]
  have hrow : cmdRow (cmdWord 0x33#8 count regindex (addressField address)) [] =
      some (.readRegSel address regindex count) := by
    simp [cmdRow, hop, hzero, hcount, hindex, haddress, c0OfOp]
  simp [decode, decodeCmd, hrow, h, payloadAdmitted]

/-- A well-formed command decodes from the word it is encoded as. -/
theorem decode_encode_command {i : Instr} {p : Presented} (hi : i.kind = .command)
    (hwf : i.wf = true) (hp : encode i = some p) : decode p = .ok i := by
  cases i
  case enqueueWord => cases hp; exact decode_enqueueWord ..
  case writeReg => cases hp; exact decode_writeReg hwf
  case readReg => cases hp; exact decode_readReg hwf
  case readRegSel => cases hp; exact decode_readRegSel hwf
  all_goals cases hi
  all_goals cases hp; exact decode_cmdC0 rfl

/-- A row of the command table that matches is a command, and its encoding is the word matched. -/
theorem encode_of_cmdRow {w : Word} {payload : List Byte} {i : Instr}
    (hrow : cmdRow w payload = some i) (hpayload : payloadAdmitted i payload = true) :
    i.kind = .command ∧ encode i = some (.cmd w payload) := by
  unfold cmdRow at hrow
  split at hrow
  next j hj =>
    split at hrow
    case isFalse => cases hrow
    case isTrue hzero =>
      cases hrow
      obtain ⟨-, hkind, henc, hadm⟩ := encode_of_c0OfOp hj
      rw [hadm, List.isEmpty_iff] at hpayload
      exact ⟨hkind, by rw [henc, cmdC0, ← (zeroC0_iff w).mp hzero, hpayload]⟩
  next =>
    repeat' split at hrow
    all_goals cases hrow
    case _ hop hzero =>
      obtain rfl : payload = [] := List.isEmpty_iff.mp hpayload
      exact ⟨rfl, by rw [encode, ← hop, ← (zeroCE_iff w).mp hzero]⟩
    case _ hop hzero => exact ⟨rfl, by rw [encode, ← hop, ← (zeroCA_iff w).mp hzero]⟩
    case _ hop hzero =>
      obtain rfl : payload = [] := List.isEmpty_iff.mp hpayload
      exact ⟨rfl, by rw [encode, ← hop, ← (zeroCA_iff w).mp hzero]⟩
    case _ hop hzero =>
      obtain rfl : payload = [] := List.isEmpty_iff.mp hpayload
      exact ⟨rfl, by rw [encode, ← hop, ← (zeroCS_iff w).mp hzero]⟩

/-! ### The patterns of the register map (R100) -/

theorem pattern_of_rdOfPattern {pattern : BitVec 16} {r : RdReg}
    (h : rdOfPattern pattern = some r) : regopPattern false r.offset = pattern := by
  simpa using List.find?_some h

theorem pattern_of_wrOfPattern {pattern : BitVec 16} {r : WrReg}
    (h : wrOfPattern pattern = some r) : regopPattern true r.offset = pattern := by
  simpa using List.find?_some h

theorem kind_and_encode_rd (r : RdReg) : r.instr.kind = .port ∧
    encode r.instr = some (.regop (regopPattern false r.offset) 0#32) := by
  cases r <;> exact ⟨rfl, rfl⟩

theorem kind_and_encode_wr (r : WrReg) (w : Word) : (r.instr w).kind = .port ∧
    encode (r.instr w) = some (.regop (regopPattern true r.offset) w) := by
  cases r <;> exact ⟨rfl, rfl⟩

/-- A pattern that stands for no register is refused. -/
theorem decode_regop_reserved {pattern : BitVec 16} (data : Word)
    (hrd : ∀ r : RdReg, regopPattern false r.offset ≠ pattern)
    (hwr : ∀ r : WrReg, regopPattern true r.offset ≠ pattern) :
    decode (.regop pattern data) = .error .reservedAccess := by
  have hrdNone : rdOfPattern pattern = none := List.find?_eq_none.mpr fun r _ => by simp [hrd r]
  have hwrNone : wrOfPattern pattern = none := List.find?_eq_none.mpr fun r _ => by simp [hwr r]
  simp [decode, decodeRegop, hrdNone, hwrNone]

/-! ### The statements -/

/-- Settles O4: a register-port operation by its register, a command by its format. -/
theorem decodeAfterEncodeIsIdentity : Obligations.DecodeAfterEncodeIsIdentity := by
  intro i hwf hkind
  cases hk : i.kind
  case pureFn => exact absurd hk hkind
  case command =>
    obtain ⟨p, hp⟩ : ∃ p, encode i = some p := by
      cases i <;> cases hk <;> exact ⟨_, rfl⟩
    exact ⟨p, hp, decode_encode_command hk hwf hp⟩
  case port =>
    cases i <;> cases hk <;> exact ⟨_, rfl, rfl⟩

/-- Settles O5: a command by the row that matched, a register-port operation by its pattern. -/
theorem encodeAfterDecodeIsIdentity : Obligations.EncodeAfterDecodeIsIdentity := by
  refine ⟨fun word payload i h => ?cmd, fun pattern data i h => ?regop⟩
  case cmd =>
    rw [decode, decodeCmd] at h
    split at h
    case h_2 => cases h
    case h_1 j hrow =>
      split at h
      case isFalse => cases h
      case isTrue hok =>
        cases h
        rw [Bool.and_eq_true] at hok
        exact ⟨hok.1, encode_of_cmdRow hrow hok.2⟩
  case regop =>
    rw [decode, decodeRegop] at h
    split at h
    case h_1 r hr =>
      cases h
      obtain rfl := pattern_of_rdOfPattern hr
      obtain ⟨hkind, henc⟩ := kind_and_encode_rd r
      exact ⟨hkind, .inr ⟨by cases r <;> rfl, henc⟩⟩
    case h_2 r _ hr =>
      cases h
      obtain rfl := pattern_of_wrOfPattern hr
      obtain ⟨hkind, henc⟩ := kind_and_encode_wr r data
      exact ⟨hkind, .inl henc⟩
    case h_3 => cases h

/-- Settles O6: each of the twelve registers' patterns is in the list. -/
theorem reservedPatternsAreRefused : Obligations.ReservedPatternsAreRefused := by
  intro pattern data hmem
  refine decode_regop_reserved data (fun r hr => hmem ?_) (fun r hr => hmem ?_) <;>
    cases r <;> rw [← hr] <;> decide

/-- Settles O3: the decoder evaluated on the ten words. -/
theorem tableWordsDecodeAsWritten : Obligations.TableWordsDecodeAsWritten :=
  ⟨rfl, rfl, rfl, rfl, rfl, rfl, rfl, rfl, rfl, rfl⟩

end Sys2Proof.Machine
end

section
/-! PROOFS. The single-access operations (files 41 to 43) and the failure of any engine step
(60_exceptions.md R257): that every step of every table is one access, what its failure leaves, the
tables' steps, and the statements on them. -/

namespace Sys2Proof.Machine

/-! ### The step table of a command -/

/-- The step table of each command (files 41 to 44). -/
def tableOf (i : Instr) (s : State) : Host.Outcome State Fault Refusal :=
  match i with
  | .readStatus => readStatusTable s
  | .readInterruptStatus => readInterruptStatusTable s
  | .resetInterruptStatus => resetInterruptStatusTable s
  | .enableDevice => toggleTable crEnBit true s
  | .disableDevice => toggleTable crEnBit false s
  | .startTransfer => toggleTable crMsmsBit true s
  | .endTransfer => toggleTable crMsmsBit false s
  | .enableGeneralCall => toggleTable crGcenBit true s
  | .disableGeneralCall => toggleTable crGcenBit false s
  | .resetTxFifo => toggleTable crTxrstBit true s
  | .clearTxFifoReset => toggleTable crTxrstBit false s
  | .enqueueWord byte isStart isStop => enqueueTable byte isStart isStop s
  | .dequeueWord => dequeueTable s
  | .initDevice => prologueTable finish s
  | .writeReg address count data => writeRegTable address count data s
  | .readReg address count => readRegTable address count s
  | .readRegSel address regindex count => readRegSelTable address regindex count s
  | _ => .refused .labelNotOfOperation

theorem exec_eq_command {i : Instr} (hk : i.kind = .command) (s : State) :
    exec i s = command i (tableOf i) s := by
  cases i <;> cases hk <;> rfl

/-- A command in flight takes the step of its table (44_transaction_engine.md R176). -/
theorem exec_run {i : Instr} {s : State} (hk : i.kind = .command) (hm : s.eng.mode = .run)
    (hc : s.eng.cmd = i) : exec i s = tableOf i s := by
  rw [exec_eq_command hk, command_runs i _ s hm hc]

/-- Only commands have steps. -/
theorem kind_of_mem_stepLabels {i : Instr} {l : Label} (h : l ∈ stepLabels i) :
    i.kind = .command := by
  cases i
  case rdIsr | wrIsr | wrSoftr | rdCr | wrCr | rdSr | wrTxFifo | rdRxFifo | rdRxPirq | wrRxPirq |
      rdGpo | wrGpo | getBit | setBit | decodeStatus | decodeISR => cases h
  all_goals rfl

theorem tableOf_toggle {i : Instr} {b : Nat} {v : Bool} (h : (i, b, v) ∈ toggles) :
    tableOf i = toggleTable (BitVec.ofNat 5 b) v ∧ i.kind = .command ∧ i.wf = true ∧
      firstLabel i = .t0 := by
  simp only [toggles, List.mem_cons, Prod.mk.injEq, List.not_mem_nil, or_false] at h
  rcases h with ⟨rfl, rfl, rfl⟩ | ⟨rfl, rfl, rfl⟩ | ⟨rfl, rfl, rfl⟩ | ⟨rfl, rfl, rfl⟩ |
    ⟨rfl, rfl, rfl⟩ | ⟨rfl, rfl, rfl⟩ | ⟨rfl, rfl, rfl⟩ | ⟨rfl, rfl, rfl⟩ <;>
    exact ⟨rfl, rfl, rfl, rfl⟩

/-! ### Every engine step is one register access -/

/-- An outcome is that of one access of the engine in `s`, at the offset and in the direction `a`. -/
def IsAccess (a : BitVec 12 × Dir) (s : State) (o : Host.Outcome State Fault Refusal) : Prop :=
  (∃ r k, a = (r.offset, .read) ∧ o = .next (engRead r k s)) ∨
    (∃ r w k, a = (r.offset, .write) ∧ o = .next (engWrite r w k s))

theorem IsAccess.read {a : BitVec 12 × Dir} {r : RdReg} {k : Word → State → State} {s : State}
    (ha : a = (r.offset, .read)) : IsAccess a s (.next (engRead r k s)) :=
  .inl ⟨r, k, ha, rfl⟩

theorem IsAccess.write {a : BitVec 12 × Dir} {r : WrReg} {w : Word} {k : State → State} {s : State}
    (ha : a = (r.offset, .write)) : IsAccess a s (.next (engWrite r w k s)) :=
  .inr ⟨r, w, k, ha, rfl⟩

theorem toggleTable_isAccess {s : State} (bit : BitVec 5) (value : Bool)
    (hl : s.eng.upc ∈ [Label.t0, .t1]) :
    IsAccess (accessOf s.eng.upc) s (toggleTable bit value s) := by
  unfold toggleTable
  split
  · next hupc => rw [hupc]; exact .read rfl
  · next hupc => rw [hupc]; exact .write rfl
  · simp_all

theorem prologueTable_isAccess {s : State} (leave : State → State)
    (hl : s.eng.upc ∈ prologueLabels) :
    IsAccess (accessOf s.eng.upc) s (prologueTable leave s) := by
  unfold prologueTable
  split
  case h_16 => simp_all [prologueLabels]
  case h_1 hupc | h_2 hupc | h_4 hupc | h_6 hupc | h_8 hupc | h_10 hupc | h_12 hupc | h_14 hupc =>
    rw [hupc]; exact .write rfl
  case h_3 hupc | h_5 hupc | h_7 hupc | h_9 hupc | h_11 hupc | h_13 hupc | h_15 hupc =>
    rw [hupc]; exact .read rfl

/-- A step of a command at one of its labels is the access that `accessOf` lists for the label. -/
theorem tableOf_isAccess {s : State} {i : Instr} (hl : s.eng.upc ∈ stepLabels i) :
    IsAccess (accessOf s.eng.upc) s (tableOf i s) := by
  cases i
  case enableDevice | disableDevice | startTransfer | endTransfer | enableGeneralCall |
      disableGeneralCall | resetTxFifo | clearTxFifoReset =>
    exact toggleTable_isAccess _ _ hl
  case initDevice => exact prologueTable_isAccess _ hl
  case writeReg =>
    simp only [tableOf, writeRegTable]
    split
    case h_7 => exact prologueTable_isAccess _ (by simp_all [stepLabels])
    case h_1 hupc | h_2 hupc | h_6 hupc => rw [hupc]; exact .write rfl
    case h_3 hupc | h_4 hupc | h_5 hupc => rw [hupc]; exact .read rfl
  case readReg =>
    simp only [tableOf, readRegTable]
    split
    case h_8 => exact prologueTable_isAccess _ (by simp_all [stepLabels])
    case h_1 hupc | h_2 hupc | h_7 hupc => rw [hupc]; exact .write rfl
    case h_3 hupc | h_4 hupc | h_5 hupc | h_6 hupc => rw [hupc]; exact .read rfl
  case readRegSel =>
    simp only [tableOf, readRegSelTable]
    split
    case h_10 => exact prologueTable_isAccess _ (by simp_all [stepLabels])
    case h_1 hupc | h_2 hupc | h_3 hupc | h_4 hupc | h_9 hupc => rw [hupc]; exact .write rfl
    case h_5 hupc | h_6 hupc | h_7 hupc | h_8 hupc => rw [hupc]; exact .read rfl
  case enqueueWord =>
    rw [tableOf, enqueueTable, List.mem_singleton.mp hl]
    exact .write rfl
  case readStatus | readInterruptStatus | dequeueWord =>
    obtain hupc := List.mem_singleton.mp hl
    simp only [tableOf, readStatusTable, readInterruptStatusTable, dequeueTable, hupc]
    exact .read rfl
  case resetInterruptStatus =>
    simp only [stepLabels, List.mem_cons, List.not_mem_nil, or_false] at hl
    rcases hl with hupc | hupc <;> simp only [tableOf, resetInterruptStatusTable, hupc]
    · exact .read rfl
    · exact .write rfl
  all_goals cases hl

/-! ### A failed access (60_exceptions.md R257) -/

/-- A failed access at the offset and in the direction of the step is `failedAt`. -/
theorem accessFault_eq_failedAt {s : State} {o : BitVec 12} {d : Dir}
    (ha : accessOf s.eng.upc = (o, d)) : accessFault o d (afterAsk s) = failedAt s := by
  simp [accessFault, recordFault_eq, failedAt, ha]

/-- A failing access of any step of any command. -/
theorem exec_fails {i : Instr} {l : Label} {s : State} (hl : l ∈ stepLabels i)
    (h : FailsAt i l s) : exec i s = .next (failedAt s) := by
  obtain ⟨hm, hc, rfl, hf⟩ := h
  rw [exec_run (kind_of_mem_stepLabels hl) hm hc]
  obtain ⟨r, k, ha, hstep⟩ | ⟨r, w, k, ha, hstep⟩ := tableOf_isAccess hl
  · rw [hstep, engRead_fails _ _ _ hf, ← accessFault_eq_failedAt ha, afterAsk]
  · rw [hstep, engWrite_fails _ _ _ _ hf, ← accessFault_eq_failedAt ha, afterAsk]

theorem afterAsk_of_cannot {s : State} (h : s.params.accessCanFail = false) : afterAsk s = s := by
  rw [afterAsk, askFail_of_cannot s h]

/-! ### Requests while the engine is not Idle -/

/-- A presented request changes nothing but the refusal mark while the engine is not Idle (R195). -/
theorem presentStep_busy {s : State} (p : Presented) (hm : s.eng.mode ≠ .idle) :
    presentStep p s = .next (markRefused .concurrent s) := by
  simp [presentStep, hm]

/-- So does a raw access, whether an operation of the block or not. -/
theorem rawAccess_busy {s : State} (write : Bool) (address bytes : Nat) (data : Word)
    (hm : s.eng.mode ≠ .idle) :
    hostAction (.access write address bytes data) s = .next (markRefused .concurrent s) := by
  rw [hostAction]
  split
  · exact presentStep_busy _ hm
  · rw [if_neg hm]

/-- A call of a pure function changes nothing but the value handed back, in any mode (R150). -/
theorem exec_call (f : FnCall) (s : State) : ∃ v, exec f.toInstr s = .next { s with ret := v } := by
  cases f <;> exact ⟨_, rfl⟩

@[simp] theorem powerOnReset_eng (s : State) : (powerOnReset s).eng = Engine.reset := by
  simp [powerOnReset]

/-- Settles O30: the one access of the step fails; a Faulted engine is left alone by every request, by a
call and by its own turn. -/
theorem failedEngineAccessStopsTheOperation : Obligations.FailedEngineAccessStopsTheOperation := by
  refine ⟨fun s i l _ hl h => exec_fails hl h, fun s hm => ?_,
    fun s h => ⟨by rw [askFail_of_cannot s h], afterAsk_of_cannot h⟩⟩
  have hbusy : s.eng.mode ≠ .idle := by simp [hm]
  refine ⟨by simp [engineStep, hm], by simp [hostAction, hm, acknowledge],
    ⟨powerOnReset s, rfl, by rw [powerOnReset_eng]; rfl⟩, fun a t hack hrst ht => ?_⟩
  cases a with
  | present p =>
    rw [hostAction, presentStep_busy p hbusy] at ht
    cases ht; simp
  | access write address bytes data =>
    rw [rawAccess_busy _ _ _ _ hbusy] at ht
    cases ht; simp
  | call f =>
    obtain ⟨v, hv⟩ := exec_call f s
    rw [hostAction, hv] at ht
    cases ht; rfl
  | ackFault => exact absurd rfl hack
  | rst => exact absurd rfl hrst

/-! ### The step tables of files 41 to 43 -/

/-- A step that reads a register without side effect. -/
theorem exec_read_pure {i : Instr} {l : Label} {s : State} {r : RdReg} {k : Word → State → State}
    (h : AtStep i l s) (hk : i.kind = .command)
    (htable : tableOf i s = .next (engRead r k s)) (hr : r ≠ .rxFifo) :
    exec i s = .next (k (portRead r s).1 (afterAsk s)) := by
  obtain ⟨hm, hc, -, hf⟩ := h
  rw [exec_run hk hm hc, htable, engRead_pure_ok k hr hf]

/-- A step that writes a register. -/
theorem exec_write {i : Instr} {l : Label} {s : State} {r : WrReg} {w : Word} {k : State → State}
    (h : AtStep i l s) (hk : i.kind = .command)
    (htable : tableOf i s = .next (engWrite r w k s)) :
    exec i s = .next (k (portWrite r w (afterAsk s))) := by
  obtain ⟨hm, hc, -, hf⟩ := h
  rw [exec_run hk hm hc, htable, engWrite_afterAsk _ _ _ hf]

/-- Settles O25: three reads and one write. -/
theorem flagCommandsStep : Obligations.FlagCommandsStep := by
  refine ⟨⟨rfl, rfl, rfl⟩, fun s => ⟨fun i l hil h => ?fails, fun h => ?rs0, fun h => ?ri0,
    fun h => ?ci0, fun h => ?ci1⟩⟩
  case fails =>
    refine exec_fails ?_ h
    simp only [List.mem_cons, Prod.mk.injEq, List.not_mem_nil, or_false] at hil
    rcases hil with ⟨rfl, rfl⟩ | ⟨rfl, rfl⟩ | ⟨rfl, rfl⟩ | ⟨rfl, rfl⟩ <;> decide
  all_goals have hupc := upc_of_atStep h
  case rs0 =>
    rw [exec_read_pure h rfl (by rw [tableOf, readStatusTable, hupc]) (by decide)]
    simp [finish, setSt, lowByte, portRead, hupc]
  case ri0 =>
    rw [exec_read_pure h rfl (by rw [tableOf, readInterruptStatusTable, hupc]) (by decide)]
    simp [finish, setEngIsr, lowByte_setWidth, portRead, hupc]
  case ci0 =>
    rw [exec_read_pure h rfl (by rw [tableOf, resetInterruptStatusTable, hupc]) (by decide)]
    simp [goto, setTmp, portRead]
  case ci1 =>
    rw [exec_write h rfl (by rw [tableOf, resetInterruptStatusTable, hupc])]
    simp [finish, portWrite, lowByte]

/-- The reading half of a toggle (R160). -/
theorem exec_toggle_t0 {i : Instr} {b : Nat} {v : Bool} {s : State} (hi : (i, b, v) ∈ toggles)
    (h : AtStep i .t0 s) :
    exec i s = .next { afterAsk s with eng := { s.eng with tmp := s.cr, upc := .t1 } } := by
  obtain ⟨htable, hk, -, -⟩ := tableOf_toggle hi
  rw [exec_read_pure h hk (by rw [htable, toggleTable, upc_of_atStep h]) (by decide)]
  simp [goto, setTmp, portRead]

/-- The writing half of a toggle (R160). -/
theorem exec_toggle_t1 {i : Instr} {b : Nat} {v : Bool} {s : State} (hi : (i, b, v) ∈ toggles)
    (h : AtStep i .t1 s) : exec i s =
      .next (finish (writeCr (setBit s.eng.tmp (BitVec.ofNat 5 b) v) (afterAsk s))) := by
  obtain ⟨htable, hk, -, -⟩ := tableOf_toggle hi
  rw [exec_write h hk (by rw [htable, toggleTable, upc_of_atStep h])]
  rfl

theorem stepLabels_toggle {i : Instr} {b : Nat} {v : Bool} (hi : (i, b, v) ∈ toggles) :
    stepLabels i = [.t0, .t1] := by
  simp only [toggles, List.mem_cons, Prod.mk.injEq, List.not_mem_nil, or_false] at hi
  rcases hi with ⟨rfl, -⟩ | ⟨rfl, -⟩ | ⟨rfl, -⟩ | ⟨rfl, -⟩ | ⟨rfl, -⟩ | ⟨rfl, -⟩ | ⟨rfl, -⟩ |
    ⟨rfl, -⟩ <;> rfl

/-- Settles O26: the eight toggles share one table. -/
theorem toggleStepsReadThenWrite : Obligations.ToggleStepsReadThenWrite := by
  refine ⟨fun op i hop => ?_, fun s i b v hi =>
    ⟨exec_toggle_t0 hi, exec_toggle_t1 hi, fun h => ?_⟩⟩
  · simp only [List.mem_cons, Prod.mk.injEq, List.not_mem_nil, or_false] at hop
    rcases hop with ⟨rfl, rfl⟩ | ⟨rfl, rfl⟩ | ⟨rfl, rfl⟩ | ⟨rfl, rfl⟩ | ⟨rfl, rfl⟩ | ⟨rfl, rfl⟩ |
      ⟨rfl, rfl⟩ | ⟨rfl, rfl⟩ <;> rfl
  · rcases h with h | h <;> exact exec_fails (by simp [stepLabels_toggle hi]) h

/-- The admission of a well-formed command by an Idle engine (R178). -/
theorem exec_admits {i : Instr} {s : State} (hk : i.kind = .command) (hwf : i.wf = true)
    (hm : s.eng.mode = .idle) : exec i s = .next { s with
      eng := { s.eng with cmd := i, upc := firstLabel i, mode := .run }, ret := .done } := by
  rw [exec_eq_command hk, command_admits _ _ _ hm, acceptCommand, if_pos hwf]

/-- An instruction whose first turn leads to `t` runs on from there. -/
theorem execTimes_succ {i : Instr} {s t : State} (n : Nat) (h : exec i s = .next t) :
    execTimes (n + 1) i s = execTimes n i t := by
  rw [execTimes, h]

/-- Where no access can fail a toggle's two steps leave the environment alone too. -/
theorem exec_toggle_t0_of_cannot {i : Instr} {b : Nat} {v : Bool} {s : State}
    (hi : (i, b, v) ∈ toggles) (hacc : s.params.accessCanFail = false) (hm : s.eng.mode = .run)
    (hc : s.eng.cmd = i) (hupc : s.eng.upc = .t0) :
    exec i s = .next { s with eng := { s.eng with tmp := s.cr, upc := .t1 } } := by
  rw [exec_toggle_t0 hi ⟨hm, hc, hupc, by rw [askFail_of_cannot s hacc]⟩, afterAsk_of_cannot hacc]

theorem exec_toggle_t1_of_cannot {i : Instr} {b : Nat} {v : Bool} {s : State}
    (hi : (i, b, v) ∈ toggles) (hacc : s.params.accessCanFail = false) (hm : s.eng.mode = .run)
    (hc : s.eng.cmd = i) (hupc : s.eng.upc = .t1) :
    exec i s = .next (finish (writeCr (setBit s.eng.tmp (BitVec.ofNat 5 b) v) s)) := by
  rw [exec_toggle_t1 hi ⟨hm, hc, hupc, by rw [askFail_of_cannot s hacc]⟩, afterAsk_of_cannot hacc]

/-- Settles O27: admission, T0 and T1; CR is what T0 read with one bit replaced. -/
theorem togglesChangeOneBit : Obligations.TogglesChangeOneBit := by
  intro s i b v hi hm hacc
  obtain ⟨-, hk, hwf, hfirst⟩ := tableOf_toggle hi
  have hb : (BitVec.ofNat 5 b).toNat = b := by
    simp only [toggles, List.mem_cons, Prod.mk.injEq, List.not_mem_nil, or_false] at hi
    rcases hi with ⟨-, rfl, -⟩ | ⟨-, rfl, -⟩ | ⟨-, rfl, -⟩ | ⟨-, rfl, -⟩ | ⟨-, rfl, -⟩ |
      ⟨-, rfl, -⟩ | ⟨-, rfl, -⟩ | ⟨-, rfl, -⟩ <;> rfl
  refine ⟨setBit s.cr (BitVec.ofNat 5 b) v, fun k hkk => ?_, ?_⟩
  · rw [setBit_getLsbD _ _ _ k hkk, hb]
  · have hadmit := exec_admits hk hwf hm
    rw [hfirst] at hadmit
    refine (execTimes_succ 2 hadmit).trans ?_
    refine (execTimes_succ 1 (exec_toggle_t0_of_cannot hi ?_ rfl rfl rfl)).trans ?_
    · exact hacc
    refine (execTimes_succ 0 (exec_toggle_t1_of_cannot hi ?_ rfl rfl rfl)).trans ?_
    · exact hacc
    rw [writeCr_eq_controlWritten]
    rfl

/-- The entry `enqueueWord` writes: the byte with its two flags above it (R101, R170). -/
theorem entryOfWord_entryWord_getLsbD (byte : Byte) (isStart isStop : Bool) (k : Nat) (hk : k < 10) :
    (entryOfWord (entryWord byte isStart isStop)).getLsbD k =
      if k < 8 then byte.getLsbD k else if k = 8 then isStart else isStop := by
  simp only [entryOfWord, entryWord, BitVec.getLsbD_extractLsb', BitVec.getLsbD_or, Nat.zero_add]
  rw [shiftedBool_getLsbD isStart 8 k (by omega), shiftedBool_getLsbD isStop 9 k (by omega)]
  interval_cases k <;> simp

/-- The command word of `enqueueWord` field by field (R97, format CE). -/
theorem enqueueWord_word (byte : Byte) (isStart isStop : Bool) :
    (0x20#8 ++ (0#6 ++ (BitVec.ofBool isStop ++ (BitVec.ofBool isStart ++ (byte ++ 0#8)))) :
      BitVec (8 + (6 + (1 + (1 + (8 + 8)))))) =
      cmdWord 0x20#8 (flagsField isStart isStop) byte 0#8 := by
  refine BitVec.eq_of_getLsbD_eq fun k hk => ?_
  rw [cmdWord_getLsbD, flagsField_getLsbD]
  simp only [BitVec.getLsbD_append, BitVec.getLsbD_ofBool]
  interval_cases k <;> simp

/-- Settles O28: one write of the transmit FIFO. -/
theorem enqueueWordQueuesItsEntry : Obligations.EnqueueWordQueuesItsEntry := by
  intro s byte isStart isStop
  have hbit := entryOfWord_entryWord_getLsbD byte isStart isStop
  refine ⟨?decode, entryOfWord (entryWord byte isStart isStop), ?data, hbit 8 (by decide),
    hbit 9 (by decide), fun h => ?eq0, exec_fails (List.mem_singleton.mpr rfl)⟩
  case decode =>
    rw [enqueueWord_word]
    exact decode_enqueueWord byte isStart isStop
  case data =>
    refine BitVec.eq_of_getLsbD_eq fun k hk => ?_
    rw [BitVec.getLsbD_extractLsb', Nat.zero_add, hbit k (by omega), if_pos hk]
    simp [hk]
  case eq0 =>
    rw [exec_write h rfl (by rw [tableOf, enqueueTable, upc_of_atStep h]), portWrite,
      writeTxFifo_eq_pushEntry]
    simp [finish, upc_of_atStep h]

/-- A read of the receive FIFO by the engine: the byte popped where one waits, the fault where none
does (R127). -/
theorem exec_read_rxFifo {i : Instr} {l : Label} {s : State} {k : Word → State → State}
    (h : AtStep i l s) (hk : i.kind = .command)
    (htable : tableOf i s = .next (engRead .rxFifo k s)) :
    exec i s = .next (k (readRxFifo (afterAsk s)).1 { afterAsk s with
      rxf := s.rxf.tail, draws := (afterAsk s).draws + 1
      faults := if s.rxf = [] then withFault .rxUnderflow s.faults else s.faults }) := by
  obtain ⟨hm, hc, -, hf⟩ := h
  have hread : portRead .rxFifo (askFail s).2 = readRxFifo (afterAsk s) := rfl
  rw [exec_run hk hm hc, htable, engRead_ok _ _ _ hf, hread, readRxFifo_state]
  simp

/-- Settles O29: one read of the receive FIFO, its low byte stored at index 0. -/
theorem dequeueWordTakesOneByte : Obligations.DequeueWordTakesOneByte := by
  refine ⟨rfl, fun s => ⟨exec_fails (List.mem_singleton.mpr rfl), fun h hwf => ?_⟩⟩
  have hstep := exec_read_rxFifo h rfl (by rw [tableOf, dequeueTable, upc_of_atStep h])
  refine ⟨(readRxFifo (afterAsk s)).1,
    memWrite s.res.data 0 (lowByte (readRxFifo (afterAsk s)).1),
    fun k => memRead_memWrite _ hwf _ _ _, fun b rest hrxf => ⟨?_, ?_⟩, fun hrxf => ?_⟩
  · exact readRxFifo_word _ b rest (by rwa [afterAsk_rxf])
  · rw [hstep]; simp [finish, setData, setTmp, hrxf, upc_of_atStep h]
  · rw [hstep]; simp [finish, setData, setTmp, hrxf, upc_of_atStep h]

/-! ### Admission -/

/-- The first label of a command heads its step table. -/
theorem head_stepLabels {i : Instr} (hk : i.kind = .command) :
    (stepLabels i).head? = some (firstLabel i) := by
  cases i <;> cases hk <;> rfl

/-- Settles O24: what `command` does outside a step of the operation in flight. -/
theorem commandsAreAdmittedWhole : Obligations.CommandsAreAdmittedWhole := by
  intro s i hk
  refine ⟨fun hm hwf => ⟨exec_admits hk hwf hm, head_stepLabels hk⟩, fun hm hwf => ?_,
    fun hbusy => ?_⟩
  · rw [exec_eq_command hk, command_admits _ _ _ hm, acceptCommand, if_neg (by simp [hwf])]
  · rw [exec_eq_command hk, command]
    rcases hbusy with hm | ⟨hm, hc⟩
    · rw [hm]
    · rw [hm]; exact if_neg hc

end Sys2Proof.Machine
end

section
/-! PROOFS. One turn of the machine (00_scope.md R9, 45_bus_side.md R231, 60_exceptions.md R275): who
moves, what the host's requests and the two resets do, and the statements on them. -/

namespace Sys2Proof.Machine

/-! ### Who moves -/

/-- A queued turn is taken by its agent. -/
theorem step_of_turn {s : State} {a : Agent} {ts : List Agent} (hstop : stopReason s = none)
    (ht : s.turns = a :: ts) : step s = act a { s with turns := ts } := by
  simp [step, stepOnce, hstop, nextAgent, ht]

/-- With no queued turn one of the two named schedules chooses, and nothing is drawn. -/
theorem step_of_policy {s : State} (hstop : stopReason s = none) (ht : s.turns = [])
    (hp : s.policy ≠ .free) : step s = act (policyAgent s) s := by
  simp [step, stepOnce, hstop, nextAgent, ht, hp]

/-- A host turn takes the next action. -/
theorem step_of_hostTurn {s : State} {a : HostAction} {ts : List Agent} {ins : List HostAction}
    (hstop : stopReason s = none) (ht : s.turns = .host :: ts) (hi : s.inputs = a :: ins) :
    step s = hostAction a { s with turns := ts, inputs := ins } := by
  rw [step_of_turn hstop ht, act, hostStep]
  simp [hi]

theorem engineStep_run {s : State} (hm : s.eng.mode = .run) : engineStep s = exec s.eng.cmd s := by
  rw [engineStep, if_pos hm]

theorem engineStep_pass {s : State} (hm : s.eng.mode ≠ .run) : engineStep s = .next s := by
  rw [engineStep, if_neg hm]

/-! ### Refusals -/

/-- A run goes on exactly while nothing but the static mode's reason is marked (log entry 10). -/
theorem stopReason_eq_none_iff (s : State) :
    stopReason s = none ↔ ∀ r ∈ s.refused, r = .staticModeNotSpecified := by
  simp [stopReason, List.find?_eq_none]

theorem stopReason_of_nil {s : State} (h : s.refused = []) : stopReason s = none := by
  simp [stopReason, h]

/-- A first refusal that stops the run is added to the mark. -/
theorem markRefused_new {s : State} {r : Refusal}
    (hstop : ∀ q ∈ s.refused, q = .staticModeNotSpecified)
    (hr : r ≠ .staticModeNotSpecified) :
    markRefused r s = { s with refused := s.refused ++ [r] } := by
  rw [markRefused, if_neg fun h => hr (hstop r h)]

/-- After it the machine stops with that reason (R259). -/
theorem step_of_refused {s : State} {r : Refusal} {rs : List Refusal} (h : s.refused = rs ++ [r])
    (hstop : ∀ q ∈ rs, q = .staticModeNotSpecified) (hr : r ≠ .staticModeNotSpecified) :
    step s = .refused r := by
  have hnone : rs.find? (fun q => q != .staticModeNotSpecified) = none := by
    simpa [List.find?_eq_none] using hstop
  have hreason : stopReason s = some r := by simp [stopReason, h, hnone, hr]
  simp [step, stepOnce, hreason]

theorem refusalOf_ne_static (e : DecodeError) : refusalOf e ≠ .staticModeNotSpecified := by
  cases e <;> decide

/-! ### The host's requests -/

/-- A request that decodes runs its instruction on an Idle engine (R178). -/
theorem presentStep_ok {s : State} {p : Presented} {i : Instr} (hm : s.eng.mode = .idle)
    (hd : decode p = .ok i) : presentStep p s = exec i s := by
  simp [presentStep, hm, hd]

/-- A request that does not decode only sets the mark (R133). -/
theorem presentStep_error {s : State} {p : Presented} {e : DecodeError} (hm : s.eng.mode = .idle)
    (hd : decode p = .error e) : presentStep p s = .next (markRefused (refusalOf e) s) := by
  simp [presentStep, hm, hd]

/-- The offset of a pattern can be read off it. -/
theorem offset_of_regopPattern_eq {w w' : Bool} {o o' : BitVec 12}
    (h : regopPattern w o = regopPattern w' o') : o = o' := by
  refine BitVec.eq_of_getLsbD_eq fun k hk => ?_
  have hbit := congrArg (·.getLsbD k) h
  simp only [regopPattern, BitVec.getLsbD_append] at hbit
  simpa [hk, show k < 1 + 12 by omega] using hbit

/-- Every register stands at a word offset up to that of GPO (20_memory.md R62). -/
theorem regOffset_aligned : (∀ r : RdReg, r.offset.toNat % 4 = 0 ∧ r.offset.toNat ≤ 0x124) ∧
    (∀ r : WrReg, r.offset.toNat % 4 = 0 ∧ r.offset.toNat ≤ 0x124) := by
  constructor <;> intro r <;> cases r <;> decide

/-- An access off the word grid or above the last register reaches none (R65, R68). -/
theorem decode_regop_outside {write : Bool} {off : BitVec 12} (data : Word)
    (h : off.toNat % 4 ≠ 0 ∨ 0x124 < off.toNat) :
    decode (.regop (regopPattern write off) data) = .error .reservedAccess := by
  refine decode_regop_reserved data (fun r hr => ?_) (fun r hr => ?_)
  · obtain rfl := offset_of_regopPattern_eq hr
    have := regOffset_aligned.1 r
    omega
  · obtain rfl := offset_of_regopPattern_eq hr
    have := regOffset_aligned.2 r
    omega

/-- Settles O11: inside the window a raw access is a REGOP, and one that misses every register is
refused by the decoder. -/
theorem rawAccessReachesItsRegister : Obligations.RawAccessReachesItsRegister := by
  intro s write address bytes data hm hbase
  refine ⟨fun off hbytes haddr => ?_, fun houtside => ?_⟩
  · have hoff := off.isLt
    have hregop : regopOfAccess s.params write address bytes data =
        some (.regop (regopPattern write off) data) := by
      rw [regopOfAccess, if_pos (by omega), haddr, Nat.add_sub_cancel_left, BitVec.ofNat_toNat]
      rfl
    simp only [hostAction, hregop]
  · rw [hostAction, regopOfAccess]
    by_cases hwindow : bytes = 4 ∧ s.params.i2cBase ≤ address ∧
      address < s.params.i2cBase + 2 ^ 12
    · have hoff : (BitVec.ofNat 12 (address - s.params.i2cBase)).toNat =
          address - s.params.i2cBase := by
        rw [BitVec.toNat_ofNat, Nat.mod_eq_of_lt (by omega)]
      rw [if_pos hwindow]
      exact presentStep_error hm (decode_regop_outside data (by omega))
    · rw [if_neg hwindow]
      simp [hm]

/-- Settles O7. -/
theorem stepRunsPresentedInstruction : Obligations.StepRunsPresentedInstruction := by
  intro s p i ts ins hstop ht hi hm hd
  rw [step_of_hostTurn hstop ht hi, hostAction]
  exact presentStep_ok hm hd

/-- Settles O8. -/
theorem stepRunsLatchedCommand : Obligations.StepRunsLatchedCommand := by
  intro s ts hstop
  refine ⟨fun ht => ⟨fun hm => ?_, fun hm => ?_⟩, fun f ins ht hi => ?_⟩
  · rw [step_of_turn hstop ht]; exact engineStep_run hm
  · rw [step_of_turn hstop ht]; exact engineStep_pass hm
  · rw [step_of_hostTurn hstop ht hi, hostAction]

/-- Settles O9. -/
theorem fetchedWordRunsNext : Obligations.FetchedWordRunsNext := by
  intro s nbits w i hd
  have hdecode : decode (presentedOfWord nbits w) = .ok i := by
    unfold decodeTableWord at hd
    split at hd
    · split at hd
      next j hj => cases hd; exact hj
      next => cases hd
    · cases hd
  rw [step_of_hostTurn (s := s.withFetchWord nbits w) (stopReason_of_nil rfl) rfl rfl, hostAction]
  exact presentStep_ok rfl hdecode

/-- Settles O10: what `policyAgent` says once no queue and no static mode is in the way. -/
theorem namedSchedulesChooseTheMover : Obligations.NamedSchedulesChooseTheMover := by
  intro s hstop ht hstatic hmode
  have hwants : busWants s = (busMove s).isSome := by
    simp only [busWants, staticMode, crEn, crMsms, hmode]
    simp [hstatic]
  have hquiet : busWants s = false ↔ Quiescent s := by simp [hwants, Quiescent]
  have hmoves : busWants s = true ↔ ¬ Quiescent s := by rw [← hquiet, Bool.not_eq_false]
  refine ⟨fun hp => ?_, fun hp => ?_⟩
  all_goals
    rw [step_of_policy hstop ht (by simp [hp])]
    simp only [policyAgent, hp]
  · refine ⟨fun hq => ?_, fun hq hm => ?_, fun hq hm => ?_⟩
    · simp [hmoves.mpr hq, act]
    · simp [hquiet.mpr hq, hm, act, engineStep_run hm]
    · simp [hquiet.mpr hq, hm, act]
  · refine ⟨fun hm hpoll hq => ?_, fun hm hgo => ?_, fun hm => ?_⟩
    · simp [hm, pollWaits, hpoll, hmoves.mpr hq, act]
    · have hpasses : (pollWaits s && busWants s) = false := by
        rcases hgo with hpoll | hq
        · simp [pollWaits, hpoll]
        · simp [hquiet.mpr hq]
      simp [hm, hpasses, act, engineStep_run hm]
    · simp [hm, act]

/-- Settles O12: the reason is new, because a reason that stops the run would have stopped it. -/
theorem refusedRequestOnlySetsTheMark : Obligations.RefusedRequestOnlySetsTheMark := by
  intro s p e ts ins hstop ht hi hm hd
  have hold := (stopReason_eq_none_iff s).mp hstop
  refine ⟨?_, step_of_refused rfl hold (refusalOf_ne_static e)⟩
  rw [step_of_hostTurn hstop ht hi, hostAction]
  exact (presentStep_error (by exact hm) hd).trans
    (congrArg _ (markRefused_new (by exact hold) (refusalOf_ne_static e)))

/-- Settles O13: whatever is asked for, the engine is not Idle. -/
theorem secondCallPathIsRefused : Obligations.SecondCallPathIsRefused := by
  intro s a ts ins hstop ht hi hm ha
  have hold := (stopReason_eq_none_iff s).mp hstop
  have hmark : hostAction a { s with turns := ts, inputs := ins } =
      .next (markRefused .concurrent { s with turns := ts, inputs := ins }) := by
    rcases ha with ⟨p, rfl⟩ | ⟨write, address, bytes, data, rfl⟩
    · exact presentStep_busy p hm
    · exact rawAccess_busy write address bytes data hm
  rw [step_of_hostTurn hstop ht hi, hmark]
  exact congrArg _ (markRefused_new (by exact hold) (by decide))

/-! ### Raw accesses that fail -/

/-- The register-port operations are the reads and the writes of the registers. -/
theorem port_instr {i : Instr} (hk : i.kind = .port) :
    (∃ r : RdReg, i = r.instr) ∨ ∃ (r : WrReg) (w : Word), i = r.instr w := by
  cases i
  case rdIsr => exact .inl ⟨.isr, rfl⟩
  case rdCr => exact .inl ⟨.cr, rfl⟩
  case rdSr => exact .inl ⟨.sr, rfl⟩
  case rdRxFifo => exact .inl ⟨.rxFifo, rfl⟩
  case rdRxPirq => exact .inl ⟨.rxPirq, rfl⟩
  case rdGpo => exact .inl ⟨.gpo, rfl⟩
  case wrIsr w => exact .inr ⟨.isr, w, rfl⟩
  case wrSoftr w => exact .inr ⟨.softr, w, rfl⟩
  case wrCr w => exact .inr ⟨.cr, w, rfl⟩
  case wrTxFifo w => exact .inr ⟨.txFifo, w, rfl⟩
  case wrRxPirq w => exact .inr ⟨.rxPirq, w, rfl⟩
  case wrGpo w => exact .inr ⟨.gpo, w, rfl⟩
  all_goals cases hk

/-- Settles O21: a read and a write fail alike. -/
theorem failedHostAccessHasNoEffect : Obligations.FailedHostAccessHasNoEffect := by
  intro s i hk hm hf
  obtain ⟨r, rfl⟩ | ⟨r, w, rfl⟩ := port_instr hk
  · simp [exec_rdInstr, hostRead, hm, hf, afterAsk]
  · simp [exec_wrInstr, hostWrite, hm, hf, afterAsk]

/-! ### The two resets -/

@[simp] theorem afterAsk_trace (s : State) : (afterAsk s).trace = s.trace := askFail_trace s
@[simp] theorem afterAsk_refused (s : State) : (afterAsk s).refused = s.refused :=
  askFail_refused s

/-- What the slaves see of a soft reset: an ABORT where a transfer was open (R129, R223). -/
theorem softReset_env (s : State) :
    (softReset s).env = if ownBusy s.ls then observe .abort s.env else s.env := by
  rw [softReset, busAbandon_env]; rfl

theorem abortOf_eq_nil_iff (ls : LineState) : abortOf ls = [] ↔ ownBusy ls = false := by
  rw [abortOf_eq]; cases ownBusy ls <;> simp

/-- Settles O20: the soft reset's fields with the key, the refusal mark without. -/
theorem softResetNeedsItsKey : Obligations.SoftResetNeedsItsKey := by
  refine ⟨decode_regopWrite .softr, fun s w hm hf => ⟨fun hkey => ?_, fun hkey => ?_⟩⟩
  · refine ⟨_, exec_wrInstr_ok .softr w s hm hf, ?_⟩
    rw [portWrite, writeSoftr, if_pos (show w = softrKey from hkey)]
    refine ⟨by simp, by simp, by simp, by simp, by simp, by simp, by simp, ?_, by simp, ?_, by simp,
      by simp, by simp, by simp, by simp⟩
    · simp [abortOf_eq]
    · simp only [softReset_env, afterAsk_ls, abortOf_eq_nil_iff]
      cases ownBusy s.ls <;> simp
  · refine ⟨(markRefused .badResetKey (afterAsk s)).refused, ?_, fun r => ?_⟩
    · refine (exec_wrInstr_ok .softr w s hm hf).trans ?_
      rw [portWrite, writeSoftr, if_neg (show w ≠ softrKey from hkey)]
      unfold markRefused
      split <;> rfl
    · rw [mem_markRefused, afterAsk_refused]

/-- Settles O2: the power-on column by BusAbandon and the reset of the registers. -/
theorem powerOnResetActsInAnyMode : Obligations.PowerOnResetActsInAnyMode := by
  intro s ts ins hstop ht hi
  refine ⟨_, step_of_hostTurn hstop ht hi, ?_⟩
  have henv : (powerOnReset { s with turns := ts, inputs := ins }).env.extBusy = s.env.extBusy := by
    rw [powerOnReset, busAbandon_env]
    split <;> simp
  refine ⟨by simp [powerOnReset], by simp [powerOnReset], by simp [powerOnReset],
    by simp [powerOnReset], by simp [powerOnReset], by simp [powerOnReset], by simp [powerOnReset],
    by simp [powerOnReset], by simp [Engine.reset], ?_, by simp [powerOnReset],
    by simp [powerOnReset], henv, by simp [powerOnReset], by simp [powerOnReset],
    by simp [powerOnReset]⟩
  simp [powerOnReset, abortOf_eq]

/-- Settles O1: the reset state evaluated, and one read of SR on it. -/
theorem resetLeavesControllerAsSpecified : Obligations.ResetLeavesControllerAsSpecified :=
  ⟨rfl, rfl, rfl, rfl, rfl, rfl, rfl, rfl, rfl, rfl, rfl, rfl⟩

/-! ### The environment's turn -/

/-- Settles O52: `EnvBusy` is enabled where the parameter allows it and no own transfer is open. -/
theorem environmentTogglesTheBusyBit : Obligations.EnvironmentTogglesTheBusyBit := by
  intro s ts hstop ht
  have henabled : ∀ u : State, envEnabled u = true ↔
      u.params.extBusyAllowed = true ∧ (u.ls = .idle ∨ u.ls = .halted) := by
    intro u
    cases hls : u.ls <;> simp [envEnabled, ownBusy, hls]
  rw [step_of_turn hstop ht, act, envStep]
  exact ⟨fun hallowed hls => congrArg _ (if_pos ((henabled _).mpr ⟨hallowed, hls⟩)),
    fun hnot => congrArg _ (if_neg fun h => hnot ((henabled _).mp h))⟩

end Sys2Proof.Machine
end

section
/-! PROOFS. What a turn can do, said once: the steps of the engine's tables, the turns of the host, and
the controller's part of each; then the statements on what only grows and on who writes what. -/

namespace Sys2Proof.Machine

/-! ### The steps of the tables (files 41 to 44) -/

/-- The labels at which the engine reads CR into `eng.tmp`, each with the label after it. -/
def crReads : List (Label × Label) :=
  [(.t0, .t1), (.p2, .p3), (.p4, .p5), (.p8, .p9), (.p10, .p11), (.p12, .p13), (.w4, .w5), (.g5, .g6),
    (.s7, .s8)]

/-- The labels at which the prologue writes CR, each with the bit, its value and the label after it. -/
def crWrites : List (Label × BitVec 5 × Bool × Label) :=
  [(.p3, 1#5, true, .p4), (.p5, 1#5, false, .p6), (.p9, 0#5, true, .p10), (.p11, 6#5, false, .p12),
    (.p13, 1#5, false, .p14)]

/-- What a step of the command `i` whose access succeeds makes of `s` (44_transaction_engine.md R176). -/
inductive EngineStep (i : Instr) (s : State) : State → Prop
  | readStatus (h : s.eng.upc = .rs0) : EngineStep i s { afterAsk s with
      eng := { s.eng with mode := .idle, st := lowByte (srWord s) }
      res := { s.res with status := lowByte (srWord s) } }
  | readFlags (h : s.eng.upc = .ri0) : EngineStep i s { afterAsk s with
      eng := { s.eng with mode := .idle, isr := s.isr }, res := { s.res with isr := s.isr } }
  | saveIsr (next : Label) (h : (s.eng.upc, next) ∈ [(Label.ci0, Label.ci1), (.p6, .p7)]) :
      EngineStep i s { afterAsk s with
        eng := { s.eng with tmp := s.isr.setWidth 32, upc := next } }
  | clearIsr (h : s.eng.upc = .p7) : EngineStep i s { afterAsk s with
      isr := 0x00#8, eng := { s.eng with upc := .p8 } }
  | clearIsrLast (h : s.eng.upc = .ci1) : EngineStep i s { afterAsk s with
      isr := 0x00#8, eng := { s.eng with mode := .idle } }
  | readCr (next : Label) (h : (s.eng.upc, next) ∈ crReads) : EngineStep i s { afterAsk s with
      eng := { s.eng with tmp := s.cr, upc := next } }
  | writeCr (bit : BitVec 5) (value : Bool) (next : Label)
      (h : (s.eng.upc, bit, value, next) ∈ crWrites) :
      EngineStep i s (goto next (writeCr (setBit s.eng.tmp bit value) (afterAsk s)))
  | toggleLast (bit : BitVec 5) (value : Bool) (h : s.eng.upc = .t1) :
      EngineStep i s (finish (Machine.writeCr (setBit s.eng.tmp bit value) (afterAsk s)))
  | readLast (h : s.eng.upc ∈ [Label.g6, .s8]) :
      EngineStep i s (finish (Machine.writeCr (setBit s.eng.tmp 0#5 false) (afterAsk s)))
  | writeLast (h : s.eng.upc = .w5) : EngineStep i s
      { finish (Machine.writeCr (setBit s.eng.tmp 0#5 false) (afterAsk s)) with
        res := { s.res with fail := s.eng.isr.getLsbD 1 } }
  | softReset (h : s.eng.upc = .p0) : EngineStep i s (goto .p1 (softReset (afterAsk s)))
  | threshold (h : s.eng.upc = .p1) : EngineStep i s { afterAsk s with
      rxPirq := rxPirqField s.params s.params.rxPirqInit, eng := { s.eng with upc := .p2 } }
  | pollAgain (h : s.eng.upc ∈ pollLabels) : EngineStep i s { afterAsk s with
      eng := { s.eng with st := lowByte (srWord s) } }
  | initLast (h : s.eng.upc = .p14) (hi : i = .initDevice) : EngineStep i s { afterAsk s with
      eng := { s.eng with mode := .idle, st := lowByte (srWord s) } }
  | leavePrologue (h : s.eng.upc = .p14) (hi : i ≠ .initDevice) (hp : .p0 ∈ stepLabels i) :
      EngineStep i s { afterAsk s with
        eng := { s.eng with st := lowByte (srWord s), upc := afterPrologue i } }
  | leaveWritePoll (h : s.eng.upc = .w2) : EngineStep i s { afterAsk s with
      eng := { s.eng with st := lowByte (srWord s), upc := .w3 } }
  | leaveReceivePoll (next : Label) (h : (s.eng.upc, next) ∈ [(Label.g2, Label.g3), (.s4, .s5)])
      (hrxf : s.rxf ≠ []) : EngineStep i s { afterAsk s with
        eng := { s.eng with st := lowByte (srWord s), upc := next } }
  | saveFlags (h : s.eng.upc = .w3) : EngineStep i s { afterAsk s with
      eng := { s.eng with isr := s.isr, upc := .w4 } }
  | diagnose (next : Label) (h : (s.eng.upc, next) ∈ [(Label.g4, Label.g5), (.s6, .s7)]) :
      EngineStep i s { afterAsk s with
        eng := { s.eng with isr := s.isr, upc := next }, res := { s.res with isr := s.isr } }
  | enqueueLast (e : Entry) (h : s.eng.upc = .eq0) :
      EngineStep i s (finish (pushEntry e (afterAsk s)))
  | enqueue (e : Entry) (next : Label)
      (h : (s.eng.upc, next) ∈ [(Label.g0, Label.g1), (.s0, .s1), (.s1, .s2), (.s2, .s3)]) :
      EngineStep i s (goto next (pushEntry e (afterAsk s)))
  | enqueueFirst (e : Entry) (next : Label)
      (h : (s.eng.upc, next) ∈ [(Label.w0, Label.w1), (.g1, .g2), (.s3, .s4)]) :
      EngineStep i s (goto next (setI 0#8 (pushEntry e (afterAsk s))))
  | enqueueByte (e : Entry) (count : Byte) (h : s.eng.upc = .w1)
      (hc : transferCount i = count.toNat) :
      EngineStep i s (countLoop count .w1 .w2 (pushEntry e (afterAsk s)))
  | dequeueLast (h : s.eng.upc = .dq0) : EngineStep i s
      (finish (setData 0 (lowByte (readRxFifo (afterAsk s)).1)
        (setTmp (readRxFifo (afterAsk s)).1 (readRxFifo (afterAsk s)).2)))
  | dequeue (again leave : Label) (count : Byte)
      (h : (s.eng.upc, again, leave) ∈ [(Label.g3, Label.g2, Label.g4), (.s5, .s4, .s6)])
      (hc : transferCount i = count.toNat) : EngineStep i s
      (countLoop count again leave (setData s.eng.i.toNat (lowByte (readRxFifo (afterAsk s)).1)
        (setTmp (readRxFifo (afterAsk s)).1 (readRxFifo (afterAsk s)).2)))

/-! ### Each table takes one of them -/

theorem EngineStep.poll {i : Instr} {s : State} {label : Label} {exits : StatusWord → Bool}
    {leave : State → State} (hf : (askFail s).1 = false) (hupc : s.eng.upc = label)
    (hl : label ∈ pollLabels)
    (hleave : exits (statusNow s) = true → EngineStep i s (leave (setSt (srWord s) (afterAsk s)))) :
    EngineStep i s (pollStep label exits leave s) := by
  cases hexit : exits (statusNow s)
  · rw [pollStep_waits label leave hf hexit]
    have hagain := EngineStep.pollAgain (i := i) (s := s) (hupc ▸ hl)
    have hstay : goto label (setSt (srWord s) (afterAsk s)) =
        { afterAsk s with eng := { s.eng with st := lowByte (srWord s) } } := by
      simp [goto, setSt, hupc]
    rwa [hstay]
  · rw [pollStep_exits label leave hf hexit]
    exact hleave hexit

theorem EngineStep.of_readCrStep {i : Instr} {s : State} {next : Label}
    (hf : (askFail s).1 = false) (h : (s.eng.upc, next) ∈ crReads) :
    EngineStep i s (readCrStep next s) := by
  rw [readCrStep_ok next hf]
  exact .readCr next h

theorem EngineStep.of_writeCrStep {i : Instr} {s : State} {bit : BitVec 5} {value : Bool}
    {next : Label} (hf : (askFail s).1 = false) (h : (s.eng.upc, bit, value, next) ∈ crWrites) :
    EngineStep i s (writeCrStep bit value (goto next) s) := by
  rw [writeCrStep_ok bit value _ hf]
  exact .writeCr bit value next h

/-- A step of the prologue (R179, R181). -/
theorem EngineStep.of_prologue {i : Instr} {s : State} (hf : (askFail s).1 = false)
    (hm : s.eng.mode = .run) (hi : .p0 ∈ stepLabels i) (hl : s.eng.upc ∈ prologueLabels) :
    ∃ t, prologueTable (continuation i) s = .next t ∧ EngineStep i s t := by
  unfold prologueTable
  split
  case h_16 => simp_all [prologueLabels]
  all_goals refine ⟨_, rfl, ?_⟩
  case h_1 hupc =>
    rw [engWrite_afterAsk _ _ _ hf, portWrite, writeSoftr, if_pos rfl]
    exact .softReset hupc
  case h_2 hupc =>
    rw [engWrite_afterAsk _ _ _ hf]
    simpa [goto, portWrite] using EngineStep.threshold (i := i) hupc
  case h_7 hupc =>
    rw [engRead_pure_ok _ (by decide) hf]
    simpa [goto, setTmp, portRead] using EngineStep.saveIsr (i := i) (s := s) .p7 (by simp [hupc])
  case h_8 hupc =>
    rw [engWrite_afterAsk _ _ _ hf]
    simpa [goto, portWrite, lowByte] using EngineStep.clearIsr (i := i) hupc
  case h_15 hupc =>
    refine .poll hf hupc (by decide) fun _ => ?_
    rw [continuation_eq (by simpa using hm) (by simpa using hupc)]
    by_cases hinit : i = .initDevice
    · simpa [hinit, afterPrologue, setSt, ← hupc] using
        EngineStep.initLast (i := .initDevice) hupc rfl
    · simpa [hinit, setSt, ← hm] using EngineStep.leavePrologue hupc hinit hi
  case h_3 hupc | h_5 hupc | h_9 hupc | h_11 hupc | h_13 hupc =>
    exact .of_readCrStep hf (by rw [hupc]; decide)
  case h_4 hupc | h_6 hupc | h_10 hupc | h_12 hupc | h_14 hupc =>
    exact .of_writeCrStep hf (by rw [hupc]; decide)

/-- Where the four operations with a prologue stand in it, their table is that of the prologue. -/
theorem tableOf_prologue {i : Instr} {s : State} (hi : .p0 ∈ stepLabels i)
    (hl : s.eng.upc ∈ prologueLabels) : tableOf i s = prologueTable (continuation i) s := by
  cases i
  case initDevice => rfl
  case writeReg => exact writeRegTable_prologue _ _ _ hl
  case readReg => exact readRegTable_prologue _ _ hl
  case readRegSel => exact readRegSelTable_prologue _ _ _ hl
  all_goals simp [stepLabels] at hi

/-- A step that queues an entry and goes on in one of the ways `k` of the table. -/
theorem EngineStep.of_enqueue {i : Instr} {s : State} {w : Word} {k : State → State}
    (hf : (askFail s).1 = false)
    (h : EngineStep i s (k (pushEntry (entryOfWord w) (afterAsk s)))) :
    EngineStep i s (engWrite .txFifo w k s) := by
  rwa [engWrite_txFifo_ok w k hf]

theorem EngineStep.of_dequeueStep {i : Instr} {s : State} {count : Byte} {again leave : Label}
    (hf : (askFail s).1 = false)
    (h : (s.eng.upc, again, leave) ∈ [(Label.g3, Label.g2, Label.g4), (.s5, .s4, .s6)])
    (hc : transferCount i = count.toNat) : EngineStep i s (dequeueStep count again leave s) := by
  have hindex : (portRead .rxFifo (afterAsk s)).2.eng.i = s.eng.i := by simp
  rw [dequeueStep, engRead_ok _ _ _ hf]
  simp only [show (askFail s).2 = afterAsk s from rfl, hindex]
  exact .dequeue again leave count h hc

theorem EngineStep.of_diagnosticStep {i : Instr} {s : State} {next : Label}
    (hf : (askFail s).1 = false) (h : (s.eng.upc, next) ∈ [(Label.g4, Label.g5), (.s6, .s7)]) :
    EngineStep i s (diagnosticStep next s) := by
  rw [diagnosticStep_ok next hf]
  exact .diagnose next h

theorem EngineStep.of_receivePoll {i : Instr} {s : State} {label next : Label}
    (hf : (askFail s).1 = false) (hupc : s.eng.upc = label)
    (h : (label, next) ∈ [(Label.g2, Label.g3), (.s4, .s5)]) :
    EngineStep i s (pollStep label receiveExit (goto next) s) := by
  have hpoll : label ∈ pollLabels := by
    simp only [List.mem_cons, Prod.mk.injEq, List.not_mem_nil, or_false] at h
    rcases h with ⟨rfl, -⟩ | ⟨rfl, -⟩ <;> decide
  refine .poll hf hupc hpoll fun hexit => ?_
  have hrxf : s.rxf ≠ [] := fun hnil => by
    rw [(receiveExit_statusNow s).mpr hnil] at hexit
    cases hexit
  simpa [goto, setSt] using EngineStep.leaveReceivePoll (i := i) next (hupc ▸ h) hrxf

/-- The steps of a write after the prologue (R183 to R185). -/
theorem EngineStep.of_writeReg {s : State} {address : Address} {count : Byte} {data : List Byte}
    (hf : (askFail s).1 = false) (hl : s.eng.upc ∈ [Label.w0, .w1, .w2, .w3, .w4, .w5]) :
    ∃ t, writeRegTable address count data s = .next t ∧
      EngineStep (.writeReg address count data) s t := by
  unfold writeRegTable
  split
  case h_7 => simp_all
  all_goals refine ⟨_, rfl, ?_⟩
  case h_1 hupc => exact .of_enqueue hf (.enqueueFirst _ _ (by simp [hupc]))
  case h_2 hupc => exact .of_enqueue hf (.enqueueByte _ _ hupc rfl)
  case h_3 hupc =>
    refine .poll hf hupc (by decide) fun _ => ?_
    simpa [goto, setSt] using EngineStep.leaveWritePoll hupc
  case h_4 hupc =>
    rw [engRead_pure_ok _ (by decide) hf]
    simpa [goto, setEngIsr, portRead, lowByte_setWidth] using EngineStep.saveFlags hupc
  case h_5 hupc => exact .of_readCrStep hf (by rw [hupc]; decide)
  case h_6 hupc =>
    rw [writeCrStep_ok _ _ _ hf]
    simpa [finish, decodeISR_eq, crEnBit] using EngineStep.writeLast hupc

/-- The steps of a plain read after the prologue (R187 to R189). -/
theorem EngineStep.of_readReg {s : State} {address : Address} {count : Byte}
    (hf : (askFail s).1 = false) (hl : s.eng.upc ∈ [Label.g0, .g1, .g2, .g3, .g4, .g5, .g6]) :
    ∃ t, readRegTable address count s = .next t ∧ EngineStep (.readReg address count) s t := by
  unfold readRegTable
  split
  case h_8 => simp_all
  all_goals refine ⟨_, rfl, ?_⟩
  case h_1 hupc => exact .of_enqueue hf (.enqueue _ _ (by simp [hupc]))
  case h_2 hupc => exact .of_enqueue hf (.enqueueFirst _ _ (by simp [hupc]))
  case h_3 hupc => exact .of_receivePoll hf hupc (by decide)
  case h_4 hupc => exact .of_dequeueStep hf (by simp [hupc]) rfl
  case h_5 hupc => exact .of_diagnosticStep hf (by simp [hupc])
  case h_6 hupc => exact .of_readCrStep hf (by rw [hupc]; decide)
  case h_7 hupc =>
    rw [writeCrStep_ok _ _ _ hf]
    exact .readLast (by simp [hupc])

/-- The steps of a selected read after the prologue (R190, R191). -/
theorem EngineStep.of_readRegSel {s : State} {address : Address} {regindex count : Byte}
    (hf : (askFail s).1 = false)
    (hl : s.eng.upc ∈ [Label.s0, .s1, .s2, .s3, .s4, .s5, .s6, .s7, .s8]) :
    ∃ t, readRegSelTable address regindex count s = .next t ∧
      EngineStep (.readRegSel address regindex count) s t := by
  unfold readRegSelTable
  split
  case h_10 => simp_all
  all_goals refine ⟨_, rfl, ?_⟩
  case h_1 hupc | h_2 hupc | h_3 hupc => exact .of_enqueue hf (.enqueue _ _ (by simp [hupc]))
  case h_4 hupc => exact .of_enqueue hf (.enqueueFirst _ _ (by simp [hupc]))
  case h_5 hupc => exact .of_receivePoll hf hupc (by decide)
  case h_6 hupc => exact .of_dequeueStep hf (by simp [hupc]) rfl
  case h_7 hupc => exact .of_diagnosticStep hf (by simp [hupc])
  case h_8 hupc => exact .of_readCrStep hf (by rw [hupc]; decide)
  case h_9 hupc =>
    rw [writeCrStep_ok _ _ _ hf]
    exact .readLast (by simp [hupc])

/-- The two steps of a toggle (R160). -/
theorem EngineStep.of_toggle {i : Instr} {s : State} (bit : BitVec 5) (value : Bool)
    (hf : (askFail s).1 = false) (hl : s.eng.upc ∈ [Label.t0, .t1]) :
    ∃ t, toggleTable bit value s = .next t ∧ EngineStep i s t := by
  unfold toggleTable
  split
  · next hupc => exact ⟨_, rfl, .of_readCrStep hf (by rw [hupc]; decide)⟩
  · next hupc =>
    refine ⟨_, rfl, ?_⟩
    rw [engWrite_afterAsk _ _ _ hf]
    exact .toggleLast bit value hupc
  · simp_all

/-- Every command at one of its labels, where the access succeeds, takes one of the steps. -/
theorem EngineStep.of_tableOf {i : Instr} {s : State} (hf : (askFail s).1 = false)
    (hm : s.eng.mode = .run) (hl : s.eng.upc ∈ stepLabels i) :
    ∃ t, tableOf i s = .next t ∧ EngineStep i s t := by
  by_cases hpro : .p0 ∈ stepLabels i ∧ s.eng.upc ∈ prologueLabels
  · rw [tableOf_prologue hpro.1 hpro.2]
    exact EngineStep.of_prologue hf hm hpro.1 hpro.2
  have hown : .p0 ∈ stepLabels i → s.eng.upc ∉ prologueLabels := fun h h' => hpro ⟨h, h'⟩
  cases i
  case enableDevice | disableDevice | startTransfer | endTransfer | enableGeneralCall |
      disableGeneralCall | resetTxFifo | clearTxFifoReset =>
    exact EngineStep.of_toggle _ _ hf hl
  case initDevice => exact absurd hl (hown (by decide))
  case writeReg =>
    exact EngineStep.of_writeReg hf ((List.mem_append.mp hl).resolve_left (hown (.head _)))
  case readReg =>
    exact EngineStep.of_readReg hf ((List.mem_append.mp hl).resolve_left (hown (.head _)))
  case readRegSel =>
    exact EngineStep.of_readRegSel hf ((List.mem_append.mp hl).resolve_left (hown (.head _)))
  case readStatus =>
    obtain hupc := List.mem_singleton.mp hl
    refine ⟨_, by rw [tableOf, readStatusTable, hupc], ?_⟩
    rw [engRead_pure_ok _ (by decide) hf]
    simpa [finish, setSt, portRead] using EngineStep.readStatus hupc
  case readInterruptStatus =>
    obtain hupc := List.mem_singleton.mp hl
    refine ⟨_, by rw [tableOf, readInterruptStatusTable, hupc], ?_⟩
    rw [engRead_pure_ok _ (by decide) hf]
    simpa [finish, setEngIsr, portRead, lowByte_setWidth] using EngineStep.readFlags hupc
  case enqueueWord =>
    obtain hupc := List.mem_singleton.mp hl
    exact ⟨_, by rw [tableOf, enqueueTable, hupc], .of_enqueue hf (.enqueueLast _ hupc)⟩
  case dequeueWord =>
    obtain hupc := List.mem_singleton.mp hl
    refine ⟨_, by rw [tableOf, dequeueTable, hupc], ?_⟩
    rw [engRead_ok _ _ _ hf]
    exact .dequeueLast hupc
  case resetInterruptStatus =>
    simp only [stepLabels, List.mem_cons, List.not_mem_nil, or_false] at hl
    rcases hl with hupc | hupc <;> refine ⟨_, by rw [tableOf, resetInterruptStatusTable, hupc], ?_⟩
    · rw [engRead_pure_ok _ (by decide) hf]
      simpa [goto, setTmp, portRead] using
        EngineStep.saveIsr (i := .resetInterruptStatus) (s := s) .ci1 (by simp [hupc])
    · rw [engWrite_afterAsk _ _ _ hf]
      simpa [finish, portWrite, lowByte] using EngineStep.clearIsrLast hupc
  all_goals cases hl

/-- A table answers only at the labels of its operation (log entry 25). -/
theorem mem_stepLabels_of_tableOf {i : Instr} {s t : State} (h : tableOf i s = .next t) :
    s.eng.upc ∈ stepLabels i := by
  have hpro : ∀ {leave : State → State} {u : State}, prologueTable leave s = .next u →
      s.eng.upc ∈ prologueLabels := by
    intro leave u hu
    unfold prologueTable at hu
    split at hu
    case h_16 => cases hu
    all_goals next hupc => rw [hupc]; decide
  have htoggle : ∀ {bit : BitVec 5} {value : Bool} {u : State}, toggleTable bit value s = .next u →
      s.eng.upc ∈ [Label.t0, .t1] := by
    intro bit value u hu
    unfold toggleTable at hu
    split at hu
    case h_3 => cases hu
    all_goals next hupc => rw [hupc]; decide
  cases i
  case initDevice => exact hpro h
  case enableDevice | disableDevice | startTransfer | endTransfer | enableGeneralCall |
      disableGeneralCall | resetTxFifo | clearTxFifoReset => exact htoggle h
  case writeReg =>
    simp only [tableOf, writeRegTable] at h
    split at h
    case h_7 => exact List.mem_append_left _ (hpro h)
    all_goals next hupc => rw [hupc]; simp only [stepLabels]; decide
  case readReg =>
    simp only [tableOf, readRegTable] at h
    split at h
    case h_8 => exact List.mem_append_left _ (hpro h)
    all_goals next hupc => rw [hupc]; simp only [stepLabels]; decide
  case readRegSel =>
    simp only [tableOf, readRegSelTable] at h
    split at h
    case h_10 => exact List.mem_append_left _ (hpro h)
    all_goals next hupc => rw [hupc]; simp only [stepLabels]; decide
  case readStatus | readInterruptStatus | enqueueWord | dequeueWord =>
    simp only [tableOf, readStatusTable, readInterruptStatusTable, enqueueTable, dequeueTable] at h
    split at h
    · next hupc => rw [hupc]; exact .head _
    · cases h
  case resetInterruptStatus =>
    simp only [tableOf, resetInterruptStatusTable] at h
    split at h
    case h_3 => cases h
    all_goals next hupc => rw [hupc]; decide
  all_goals cases h

/-! ### The turns -/

/-- What a turn of a running engine can be. -/
inductive EngineTurn (s : State) : State → Prop
  | refused (h : s.eng.cmd.kind = .port) : EngineTurn s (markRefused .concurrent s)
  | returned (v : HostReturn) (h : s.eng.cmd.kind = .pureFn) : EngineTurn s { s with ret := v }
  | failed (hl : s.eng.upc ∈ stepLabels s.eng.cmd) : EngineTurn s (failedAt s)
  | stepped {t : State} (hl : s.eng.upc ∈ stepLabels s.eng.cmd) (h : EngineStep s.eng.cmd s t) :
      EngineTurn s t

theorem EngineTurn.of_exec {s t : State} (hm : s.eng.mode = .run)
    (h : exec s.eng.cmd s = .next t) : EngineTurn s t := by
  cases hk : s.eng.cmd.kind
  case port =>
    obtain ⟨r, hr⟩ | ⟨r, w, hr⟩ := port_instr hk <;> rw [hr] at h
    · rw [exec_rdInstr, hostRead, hm] at h
      cases h; exact .refused hk
    · rw [exec_wrInstr, hostWrite, hm] at h
      cases h; exact .refused hk
  case pureFn =>
    cases hcmd : s.eng.cmd <;> rw [hcmd] at h hk <;> cases hk <;> cases h <;>
      exact .returned _ (by rw [hcmd]; rfl)
  case command =>
    have hl : s.eng.upc ∈ stepLabels s.eng.cmd := by
      rw [exec_run hk hm rfl] at h
      exact mem_stepLabels_of_tableOf h
    cases hf : (askFail s).1
    · obtain ⟨u, hu, hstep⟩ := EngineStep.of_tableOf hf hm hl
      rw [exec_run hk hm rfl, hu] at h
      cases h
      exact .stepped hl hstep
    · rw [exec_fails hl ⟨hm, rfl, rfl, hf⟩] at h
      cases h
      exact .failed hl

/-- What a turn of the host that takes an action can be, the action taken off its queue. -/
inductive HostTurn (a : HostAction) (s : State) : State → Prop
  | pass : HostTurn a s s
  | refused (r : Refusal) : HostTurn a s (markRefused r s)
  | returned (v : HostReturn) : HostTurn a s { s with ret := v }
  | acknowledged : HostTurn a s (acknowledge s)
  | reset (h : a = .rst) : HostTurn a s (powerOnReset s)
  | failed (hm : s.eng.mode = .idle) : HostTurn a s { afterAsk s with ret := .accessFailed }
  | read (r : RdReg) (v : HostReturn) (hm : s.eng.mode = .idle) :
      HostTurn a s { (portRead r (afterAsk s)).2 with ret := v }
  | write (r : WrReg) (w : Word) (v : HostReturn) (hm : s.eng.mode = .idle) :
      HostTurn a s { portWrite r w (afterAsk s) with ret := v }
  | admitted (i : Instr) (hk : i.kind = .command) (hwf : i.wf = true) : HostTurn a s { s with
      eng := { s.eng with cmd := i, upc := firstLabel i, mode := .run }, ret := .done }

theorem HostTurn.of_exec {a : HostAction} {i : Instr} {s t : State} (hm : s.eng.mode = .idle)
    (h : exec i s = .next t) : HostTurn a s t := by
  cases hk : i.kind
  case port =>
    cases hf : (askFail s).1
    · obtain ⟨r, rfl⟩ | ⟨r, w, rfl⟩ := port_instr hk
      · rw [exec_rdInstr_ok r s hm hf] at h
        cases h; exact .read r _ hm
      · rw [exec_wrInstr_ok r w s hm hf] at h
        cases h; exact .write r w _ hm
    · rw [failedHostAccessHasNoEffect s i hk hm hf] at h
      cases h; exact .failed hm
  case pureFn => cases i <;> cases hk <;> cases h <;> exact .returned _
  case command =>
    cases hwf : i.wf
    · rw [exec_eq_command hk, command_admits _ _ _ hm, acceptCommand, if_neg (by simp [hwf])] at h
      cases h; exact .refused _
    · rw [exec_admits hk hwf hm] at h
      cases h; exact .admitted i hk hwf

theorem HostTurn.of_presentStep {a : HostAction} {p : Presented} {s t : State}
    (h : presentStep p s = .next t) : HostTurn a s t := by
  unfold presentStep at h
  split at h
  next hm =>
    split at h
    · exact .of_exec hm h
    · cases h; exact .refused _
  next => cases h; exact .refused _

theorem HostTurn.of_hostAction {a : HostAction} {s t : State} (h : hostAction a s = .next t) :
    HostTurn a s t := by
  cases a with
  | present p => exact .of_presentStep h
  | access write address bytes data =>
    rw [hostAction] at h
    split at h
    · exact .of_presentStep h
    · cases h; exact .refused _
  | call f =>
    obtain ⟨v, hv⟩ := exec_call f s
    rw [hostAction, hv] at h
    cases h; exact .returned v
  | ackFault =>
    rw [hostAction] at h
    split at h <;> cases h
    · exact .acknowledged
    · exact .pass
    · exact .refused _
  | rst => cases h; exact .reset rfl

/-- What a turn of an agent can be, the turn taken off its queue. -/
inductive Turn (s : State) : Agent → State → Prop
  | pass (a : Agent) : Turn s a s
  | host {a : HostAction} {rest : List HostAction} {t : State} (hi : s.inputs = a :: rest)
      (h : HostTurn a { s with inputs := rest } t) : Turn s .host t
  | engine {t : State} (hm : s.eng.mode = .run) (h : EngineTurn s t) : Turn s .engine t
  | static (h : staticMode s = true) : Turn s .bus (markRefused .staticModeNotSpecified s)
  | move (m : BusMove) (h : busMove s = some m) : Turn s .bus (doMove m s)
  | env : Turn s .env { s with env := { s.env with extBusy := !s.env.extBusy } }

theorem Turn.of_act {a : Agent} {s t : State} (h : act a s = .next t) : Turn s a t := by
  cases a with
  | host =>
    rw [act, hostStep] at h
    split at h
    · cases h; exact .pass _
    next hi => exact .host hi (.of_hostAction h)
  | engine =>
    rw [act, engineStep] at h
    split at h
    next hm => exact .engine hm (.of_exec hm h)
    · cases h; exact .pass _
  | bus =>
    obtain rfl | ⟨hs, rfl⟩ | ⟨m, hm, rfl⟩ := busStep_cases s t h
    · exact .pass _
    · exact .static hs
    · exact .move m hm
  | env =>
    rw [act, envStep] at h
    split at h <;> cases h
    · exact .env
    · exact .pass _

/-- What a step of the machine can be: the turn of the next agent, once it is taken off the queue. -/
theorem turn_of_step {s t : State} (h : step s = .next t) :
    ∃ ts d, Turn { s with turns := ts, draws := d } (nextAgent s).1 t := by
  have hturn := Turn.of_act ((step_next_iff s t).mp h).2
  obtain ⟨ts, d, hu⟩ : ∃ ts d, (nextAgent s).2 = { s with turns := ts, draws := d } := by
    unfold nextAgent
    split
    · exact ⟨_, _, rfl⟩
    · split <;> exact ⟨_, _, rfl⟩
  exact ⟨ts, d, hu ▸ hturn⟩

/-! ### What an access does to the controller -/

/-- What one access of the register port can make of a state. -/
inductive PortEffect (s : State) : State → Prop
  | none : PortEffect s s
  | pop : PortEffect s (readRxFifo s).2
  | write (r : WrReg) (w : Word) : PortEffect s (portWrite r w s)

theorem PortEffect.of_read (r : RdReg) (s : State) : PortEffect s (portRead r s).2 := by
  cases r
  case rxFifo => exact .pop
  all_goals exact .none

theorem PortEffect.of_writeCr (w : Word) (s : State) : PortEffect s (writeCr w s) := .write .cr w

/-- Every entry can be written. -/
theorem exists_entryOfWord (e : Entry) : ∃ w, entryOfWord w = e :=
  ⟨e.setWidth 32, BitVec.eq_of_getLsbD_eq fun k hk => by
    simp [entryOfWord, hk, show k < 32 by omega]⟩

@[simp] theorem pushEntry_params (e : Entry) (s : State) : (pushEntry e s).params = s.params := rfl
@[simp] theorem pushEntry_cr (e : Entry) (s : State) : (pushEntry e s).cr = s.cr := rfl
@[simp] theorem pushEntry_isr (e : Entry) (s : State) : (pushEntry e s).isr = s.isr := rfl
@[simp] theorem pushEntry_rxPirq (e : Entry) (s : State) : (pushEntry e s).rxPirq = s.rxPirq := rfl
@[simp] theorem pushEntry_gpo (e : Entry) (s : State) : (pushEntry e s).gpo = s.gpo := rfl
@[simp] theorem pushEntry_rxf (e : Entry) (s : State) : (pushEntry e s).rxf = s.rxf := rfl
@[simp] theorem pushEntry_ls (e : Entry) (s : State) : (pushEntry e s).ls = s.ls := rfl
@[simp] theorem pushEntry_framingBlocked (e : Entry) (s : State) :
    (pushEntry e s).framingBlocked = s.framingBlocked := rfl
@[simp] theorem pushEntry_env (e : Entry) (s : State) : (pushEntry e s).env = s.env := rfl
@[simp] theorem pushEntry_trace (e : Entry) (s : State) : (pushEntry e s).trace = s.trace := rfl
@[simp] theorem pushEntry_res (e : Entry) (s : State) : (pushEntry e s).res = s.res := rfl
@[simp] theorem pushEntry_refused (e : Entry) (s : State) :
    (pushEntry e s).refused = s.refused := rfl

theorem PortEffect.of_pushEntry (e : Entry) (s : State) : PortEffect s (pushEntry e s) := by
  obtain ⟨w, rfl⟩ := exists_entryOfWord e
  rw [← writeTxFifo_eq_pushEntry]
  exact .write .txFifo w

/-- Beside its one access a step of the engine touches only the engine and the result registers. -/
theorem EngineStep.effect {i : Instr} {s t : State} (h : EngineStep i s t) :
    ∃ c, PortEffect (afterAsk s) c ∧ t = { c with eng := t.eng, res := t.res } := by
  cases h
  case clearIsr | clearIsrLast => exact ⟨_, .write .isr 0#32, rfl⟩
  case writeCr | toggleLast | readLast | writeLast => exact ⟨_, .of_writeCr _ _, rfl⟩
  case softReset =>
    refine ⟨_, .write .softr softrKey, ?_⟩
    rw [portWrite, writeSoftr, if_pos rfl]
    rfl
  case threshold =>
    refine ⟨_, .write .rxPirq s.params.rxPirqInit, ?_⟩
    simp [portWrite]
  case enqueueLast | enqueue | enqueueFirst | enqueueByte => exact ⟨_, .of_pushEntry _ _, rfl⟩
  case dequeueLast | dequeue =>
    refine ⟨_, .pop, ?_⟩
    generalize readRxFifo (afterAsk s) = p
    rfl
  all_goals exact ⟨_, .none, rfl⟩

/-! ### What only grows (10_state.md R42, R44, 45_bus_side.md R210) -/

/-- Nothing is taken off the trace or the fault set, and no parameter changes. -/
structure Grows (s t : State) : Prop where
  trace : s.trace <+: t.trace
  faults : s.faults <+: t.faults
  params : t.params = s.params

theorem Grows.of_eq {s t : State} (htrace : t.trace = s.trace) (hfaults : t.faults = s.faults)
    (hparams : t.params = s.params) : Grows s t :=
  ⟨htrace ▸ List.prefix_refl _, hfaults ▸ List.prefix_refl _, hparams⟩

theorem Grows.of_trace {s t : State} {evs : List BusEvent} (htrace : t.trace = s.trace ++ evs)
    (hfaults : t.faults = s.faults) (hparams : t.params = s.params) : Grows s t :=
  ⟨htrace ▸ List.prefix_append _ _, hfaults ▸ List.prefix_refl _, hparams⟩

/-- Growth from a state that agrees with another one in the three fields. -/
theorem Grows.of_agree {s u t : State} (h : Grows u t) (htrace : u.trace = s.trace)
    (hfaults : u.faults = s.faults) (hparams : u.params = s.params) : Grows s t :=
  ⟨htrace ▸ h.trace, hfaults ▸ h.faults, h.params.trans hparams⟩

theorem Grows.trans {s t u : State} (h : Grows s t) (k : Grows t u) : Grows s u :=
  ⟨h.trace.trans k.trace, h.faults.trans k.faults, k.params.trans h.params⟩

theorem grows_recordFault (f : Fault) (s : State) : Grows s (recordFault f s) :=
  ⟨by simp, recordFault_prefix f s, by simp⟩

theorem grows_markRefused (r : Refusal) (s : State) : Grows s (markRefused r s) :=
  .of_eq (by simp) (by simp) (by simp)

theorem grows_afterAsk (s : State) : Grows s (afterAsk s) := .of_eq (by simp) (by simp) (by simp)

theorem grows_portEffect {s t : State} (h : PortEffect s t) : Grows s t := by
  cases h with
  | none => exact .of_eq rfl rfl rfl
  | pop =>
    unfold readRxFifo
    dsimp only
    split
    · exact (grows_recordFault _ { s with draws := s.draws + 1 }).of_agree rfl rfl rfl
    · exact .of_eq rfl rfl rfl
  | write r w =>
    cases r with
    | isr | rxPirq | gpo => exact .of_eq rfl rfl rfl
    | softr =>
      rw [portWrite, writeSoftr]
      split
      · exact .of_trace (softReset_trace s) (by simp) (by simp)
      · exact grows_markRefused _ _
    | cr =>
      rw [portWrite, writeCr_eq_controlWritten]
      refine ⟨?_, by simp [controlWritten], rfl⟩
      simp only [controlWritten]
      split
      · exact List.prefix_append _ _
      · exact List.prefix_refl _
    | txFifo =>
      rw [portWrite, writeTxFifo]
      split
      · exact .of_eq rfl rfl rfl
      · split
        · exact grows_recordFault _ _
        · exact .of_eq rfl rfl rfl

theorem grows_engineTurn {s t : State} (h : EngineTurn s t) : Grows s t := by
  cases h with
  | refused => exact grows_markRefused _ _
  | returned => exact .of_eq rfl rfl rfl
  | failed =>
    refine ⟨by simp [failedAt], ?_, by simp [failedAt]⟩
    simp only [failedAt, withFault]
    split <;> simp
  | stepped hl h =>
    obtain ⟨c, hc, ht⟩ := h.effect
    rw [ht]
    exact ((grows_afterAsk s).trans (grows_portEffect hc)).trans (.of_eq rfl rfl rfl)

theorem grows_hostTurn {a : HostAction} {s t : State} (h : HostTurn a s t) : Grows s t := by
  cases h with
  | pass | returned | acknowledged | admitted => exact .of_eq rfl rfl rfl
  | refused r => exact grows_markRefused _ _
  | reset =>
    exact .of_trace (evs := if ownBusy s.ls then [.abort] else []) (by simp [powerOnReset])
      (by simp [powerOnReset]) (by simp [powerOnReset])
  | failed => exact (grows_afterAsk s).trans (.of_eq rfl rfl rfl)
  | read r v =>
    exact ((grows_afterAsk s).trans (grows_portEffect (.of_read r _))).trans (.of_eq rfl rfl rfl)
  | write r w v =>
    exact ((grows_afterAsk s).trans (grows_portEffect (.write r w))).trans (.of_eq rfl rfl rfl)

theorem grows_addrAcked (b : Byte) (stop : Bool) (s : State) : Grows s (addrAcked b stop s) := by
  refine ⟨by simp, ?_, by simp⟩
  unfold addrAcked raiseFraming
  split
  · split
    · exact recordFault_prefix _ { s with framingBlocked := true }
    · exact List.prefix_refl _
  · split <;> exact List.prefix_refl _

theorem grows_orLost {s : State} {done : State → State} (h : ∀ u, Grows u (done u)) :
    Grows s (orLost done s) := by
  have hask : Grows s (askLost s).2 := .of_eq (by simp) (by simp) (by simp)
  rw [orLost]
  dsimp only
  split
  · exact hask.trans (.of_trace (evs := [.lost]) rfl (by simp) (by simp))
  · exact hask.trans (h _)

theorem grows_emit (ev : BusEvent) (s : State) : Grows s (emit ev s) :=
  .of_trace (emit_trace ev s) rfl rfl

theorem grows_addrDone (b : Byte) (stop : Bool) (s : State) : Grows s (addrDone b stop s) := by
  have hask : Grows s (askAck (.addr b) s).2 := .of_eq (by simp) (by simp) (by simp)
  rw [addrDone]
  dsimp only
  refine (hask.trans (grows_emit (.addr b (askAck (.addr b) s).1) _)).trans ?_
  split
  · exact grows_addrAcked _ _ _
  · exact .of_eq (by simp) (by simp) (by simp)

theorem grows_dataDone (b : Byte) (stop : Bool) (s : State) : Grows s (dataDone b stop s) := by
  have hask : Grows s (askAck (.txb b) s).2 := .of_eq (by simp) (by simp) (by simp)
  rw [dataDone]
  dsimp only
  refine (hask.trans (grows_emit (.txb b (askAck (.txb b) s).1) _)).trans ?_
  split
  · exact .of_eq rfl rfl rfl
  · exact .of_eq (by simp) (by simp) (by simp)

theorem grows_doMove (m : BusMove) (s : State) : Grows s (doMove m s) := by
  cases m with
  | popStart e =>
    exact .of_trace (evs := [.start]) (by simp [doMove]) (by simp [doMove]) (by simp [doMove])
  | popRepStart e =>
    exact .of_trace (evs := [.rstart]) (by simp [doMove]) (by simp [doMove]) (by simp [doMove])
  | popData e | popCount e => exact .of_eq (by simp [doMove]) (by simp [doMove]) (by simp [doMove])
  | framing e => exact (grows_recordFault _ { s with framingBlocked := true }).of_agree rfl rfl rfl
  | addrDone b stop => exact grows_orLost fun u => grows_addrDone b stop u
  | dataDone b stop => exact grows_orLost fun u => grows_dataDone b stop u
  | recv n =>
    exact .of_trace (evs := [.rxb (askByte s).1 (decide (1 < n))]) (by simp [doMove, recv])
      (by simp [doMove]) (by simp [doMove])
  | stop halt =>
    exact .of_trace (evs := [.stop]) (by simp [doMove, stopDone]) (by simp [doMove])
      (by simp [doMove])

theorem grows_turn {a : Agent} {s t : State} (h : Turn s a t) : Grows s t := by
  cases h with
  | pass => exact .of_eq rfl rfl rfl
  | host hi h => exact (grows_hostTurn h).of_agree rfl rfl rfl
  | engine hm h => exact grows_engineTurn h
  | static => exact grows_markRefused _ _
  | move m => exact grows_doMove m s
  | env => exact .of_eq rfl rfl rfl

/-- Settles O54: every turn appends. -/
theorem traceAndMarksOnlyGrow : Obligations.TraceAndMarksOnlyGrow := by
  intro s t h
  obtain ⟨ts, d, hturn⟩ := turn_of_step h
  obtain ⟨htrace, hfaults, hparams⟩ := grows_turn hturn
  exact ⟨htrace, hfaults, (step_schedule h).2.2, hparams⟩

/-! ### Who writes the failure flag and GPO (10_state.md R31, R37) -/

/-- The failure flag is written by the last step of a write alone. -/
theorem engineTurn_fail {s t : State} (h : EngineTurn s t) (hchange : t.res.fail ≠ s.res.fail) :
    s.eng.upc = .w5 := by
  cases h with
  | refused => exact absurd (by simp) hchange
  | returned => exact absurd rfl hchange
  | failed => exact absurd rfl hchange
  | stepped hl h =>
    cases h
    case writeLast hupc => exact hupc
    all_goals exact absurd (by simp [countLoop]) hchange

/-- Of the host's actions only the reset writes it. -/
theorem hostTurn_fail {a : HostAction} {s t : State} (h : HostTurn a s t)
    (hchange : t.res.fail ≠ s.res.fail) : a = .rst := by
  cases h
  case reset ha => exact ha
  all_goals exact absurd (by simp) hchange

/-- No step of the engine's tables writes GPO, but for a soft reset that clears it. -/
theorem engineTurn_gpo {s t : State} (h : EngineTurn s t)
    (hsoft : s.params.softrClearsGpo = false) : t.gpo = s.gpo := by
  cases h with
  | refused => simp
  | returned => rfl
  | failed => simp [failedAt]
  | stepped hl h => cases h <;> simp [countLoop, pushEntry, hsoft]

/-- Settles O55: the engine's, the host's and the bus side's turns by their writers. -/
theorem resultsAndPinsChangeOnlyByTheirWriters :
    Obligations.ResultsAndPinsChangeOnlyByTheirWriters := by
  intro s t h
  obtain ⟨ts, d, hturn⟩ := turn_of_step h
  generalize (nextAgent s).1 = agent at hturn ⊢
  cases hturn with
  | pass => exact ⟨fun hfail => absurd rfl hfail, fun hgpo => absurd rfl hgpo⟩
  | host hi h =>
    refine ⟨fun hfail => .inr ⟨rfl, ?_⟩, fun _ _ => rfl⟩
    rw [show s.inputs = _ from hi, hostTurn_fail h hfail]
    rfl
  | engine hm h =>
    have hfailOnly := engineTurn_fail h
    have hgpoOnly := engineTurn_gpo h
    exact ⟨fun hfail => .inl ⟨rfl, hm, hfailOnly hfail⟩,
      fun hgpo hsoft => absurd (hgpoOnly hsoft) hgpo⟩
  | static => exact ⟨fun hfail => absurd (by simp) hfail, fun hgpo => absurd (by simp) hgpo⟩
  | move m =>
    exact ⟨fun hfail => absurd (by rw [doMove_res]) hfail,
      fun hgpo => absurd (by rw [doMove_gpo]) hgpo⟩
  | env => exact ⟨fun hfail => absurd rfl hfail, fun hgpo => absurd rfl hgpo⟩

end Sys2Proof.Machine
end

section
/-! PROOFS. The invariants of the machine (10_state.md R43, 44_transaction_engine.md section 4): the
controller's part, the engine's part and the result registers' part of `Inv`, each kept by every turn. -/

namespace Sys2Proof.Machine

/-! ### The three parts of the invariant -/

/-- The part of `Inv` about the controller, the marks and the slaves. -/
structure ControllerInv (s : State) : Prop where
  txfBound : s.txf.length ≤ s.params.txDepth
  rxfBound : s.rxf.length ≤ s.params.rxDepth
  txrstEmpty : crTxrst s.cr = true → s.txf = []
  disabledIdle : crEn s.cr = false → s.ls = .idle
  disabledUnblocked : crEn s.cr = false → s.framingBlocked = false
  rxCount : ∀ n, s.ls = .rx n → 1 ≤ n ∧ n ≤ 255
  rxPirqField : s.rxPirq.toNat < 2 ^ rxPirqBits s.params
  faultsNodup : s.faults.Nodup
  refusedNodup : s.refused.Nodup
  slavesWf : SlavesWf s

/-- The part of `Inv` about the engine. -/
structure EngineInv (s : State) : Prop where
  running : s.eng.mode = .run →
    s.eng.cmd.kind = .command ∧ s.eng.cmd.wf = true ∧ s.eng.upc ∈ stepLabels s.eng.cmd
  loopIndex : s.eng.mode = .run → s.eng.upc ∈ [Label.w1, .g2, .g3, .s4, .s5] →
    s.eng.i.toNat < transferCount s.eng.cmd
  byteWaiting : s.eng.mode = .run → s.eng.upc ∈ [Label.g3, .s5] → s.rxf ≠ []

/-- The part of `Inv` about `res.data`. -/
structure DataInv (data : Memory) : Prop where
  wf : Memory.wf data
  bound : ∀ c ∈ data, c.1 < 255

theorem inv_iff (s : State) : Inv s ↔ ControllerInv s ∧ EngineInv s ∧ DataInv s.res.data := by
  constructor
  · intro h
    exact ⟨{ h with }, { h with }, ⟨h.dataWf, h.dataBound⟩⟩
  · rintro ⟨hc, he, hd⟩
    exact { hc with
      running := he.running, loopIndex := he.loopIndex, byteWaiting := he.byteWaiting
      dataWf := hd.wf, dataBound := hd.bound }

/-- The controller's part depends on the controller, the marks and the slaves alone. -/
theorem ControllerInv.congr {s t : State} (h : ControllerInv s)
    (he : t.params = s.params ∧ t.cr = s.cr ∧ t.rxPirq = s.rxPirq ∧ t.txf = s.txf ∧ t.rxf = s.rxf ∧
      t.ls = s.ls ∧ t.framingBlocked = s.framingBlocked ∧ t.env.oracle = s.env.oracle ∧
      t.faults = s.faults ∧ t.refused = s.refused) : ControllerInv t := by
  obtain ⟨hp, hcr, hpirq, htxf, hrxf, hls, hfb, ho, hf, hr⟩ := he
  constructor <;> simp only [SlavesWf, hp, hcr, hpirq, htxf, hrxf, hls, hfb, ho, hf, hr]
  exacts [h.txfBound, h.rxfBound, h.txrstEmpty, h.disabledIdle, h.disabledUnblocked, h.rxCount,
    h.rxPirqField, h.faultsNodup, h.refusedNodup, h.slavesWf]

/-- An engine that does not run has nothing to keep. -/
theorem EngineInv.of_not_running {s : State} (h : s.eng.mode ≠ .run) : EngineInv s :=
  ⟨fun hm => absurd hm h, fun hm => absurd hm h, fun hm => absurd hm h⟩

/-- The engine's part depends on the engine and on whether a byte waits. -/
theorem EngineInv.congr {s t : State} (h : EngineInv s) (heng : t.eng = s.eng)
    (hrxf : s.rxf ≠ [] → t.rxf ≠ []) : EngineInv t := by
  constructor <;> rw [heng]
  exacts [h.running, h.loopIndex, fun hm hl => hrxf (h.byteWaiting hm hl)]

/-! ### The controller's part under one access -/

theorem controllerInv_afterAsk {s : State} (h : ControllerInv s) : ControllerInv (afterAsk s) :=
  h.congr (by simp [afterAsk])

theorem controllerInv_recordFault {s : State} (f : Fault) (h : ControllerInv s) :
    ControllerInv (recordFault f s) where
  txfBound := by simpa using h.txfBound
  rxfBound := by simpa using h.rxfBound
  txrstEmpty := by simpa using h.txrstEmpty
  disabledIdle := by simpa using h.disabledIdle
  disabledUnblocked := by simpa using h.disabledUnblocked
  rxCount := by simpa using h.rxCount
  rxPirqField := by simpa using h.rxPirqField
  faultsNodup := recordFault_nodup f s h.faultsNodup
  refusedNodup := by simpa using h.refusedNodup
  slavesWf := by simpa [SlavesWf] using h.slavesWf

theorem controllerInv_markRefused {s : State} (r : Refusal) (h : ControllerInv s) :
    ControllerInv (markRefused r s) where
  txfBound := by simpa using h.txfBound
  rxfBound := by simpa using h.rxfBound
  txrstEmpty := by simpa using h.txrstEmpty
  disabledIdle := by simpa using h.disabledIdle
  disabledUnblocked := by simpa using h.disabledUnblocked
  rxCount := by simpa using h.rxCount
  rxPirqField := by simpa using h.rxPirqField
  faultsNodup := by simpa using h.faultsNodup
  refusedNodup := markRefused_nodup r s h.refusedNodup
  slavesWf := by simpa [SlavesWf] using h.slavesWf

/-- Reference slaves are well formed when the memory of each is. -/
theorem slavesWf_of_sim {s : State} {devs : List SimDev} (ho : s.env.oracle = .sim devs) :
    SlavesWf s ↔ ∀ d ∈ devs, Memory.wf d.regs := by
  simp only [SlavesWf, ho]

/-- Without reference slaves there is nothing to ask. -/
theorem slavesWf_of_free {s : State} (ho : s.env.oracle = .free) : SlavesWf s := by
  simp only [SlavesWf, ho]

theorem observe_oracle_of_free (ev : BusEvent) {e : Environment} (ho : e.oracle = .free) :
    (observe ev e).oracle = .free := by
  simp only [observe, ho]

theorem observe_oracle_of_sim (ev : BusEvent) {e : Environment} {devs : List SimDev}
    (ho : e.oracle = .sim devs) : (observe ev e).oracle = .sim (devs.map (simObserve ev)) := by
  simp only [observe, ho]

/-- The slaves' memories stay canonical whatever event they see. -/
theorem slavesWf_observe (ev : BusEvent) (e : Environment) {s t : State} (h : SlavesWf s)
    (he : e.oracle = s.env.oracle) (ht : t.env.oracle = (observe ev e).oracle) : SlavesWf t := by
  cases ho : e.oracle with
  | free => exact slavesWf_of_free (ht.trans (observe_oracle_of_free ev ho))
  | sim devs =>
    have hwf := (slavesWf_of_sim (he.symm.trans ho)).mp h
    refine (slavesWf_of_sim (ht.trans (observe_oracle_of_sim ev ho))).mpr fun d hd => ?_
    obtain ⟨d₀, hd₀, rfl⟩ := List.mem_map.mp hd
    exact simObserve_wf ev d₀ (hwf d₀ hd₀)

theorem slavesWf_busAbandon {s : State} (h : SlavesWf s) : SlavesWf (busAbandon s) := by
  cases hbusy : ownBusy s.ls
  · have henv : (busAbandon s).env = s.env := by simp [busAbandon_env, hbusy]
    rwa [SlavesWf, henv]
  · exact slavesWf_observe .abort s.env h rfl (by simp [busAbandon_env, hbusy])

/-- Both resets: empty FIFOs, an Idle line, CR = 0. -/
theorem controllerInv_reset {s t : State} (h : ControllerInv s)
    (he : t.params = s.params ∧ t.cr = 0x00000000#32 ∧ t.rxPirq = 0#32 ∧ t.txf = [] ∧ t.rxf = [] ∧
      t.ls = .idle ∧ t.framingBlocked = false ∧ t.faults = s.faults ∧ t.refused = s.refused)
    (hslaves : SlavesWf t) : ControllerInv t := by
  obtain ⟨hp, hcr, hpirq, htxf, hrxf, hls, hfb, hf, hr⟩ := he
  constructor
  case slavesWf => exact hslaves
  all_goals simp only [hp, hcr, hpirq, htxf, hrxf, hls, hfb, hf, hr]
  case faultsNodup => exact h.faultsNodup
  case refusedNodup => exact h.refusedNodup
  case rxPirqField => exact Nat.two_pow_pos _
  all_goals simp

theorem controllerInv_softReset {s : State} (h : ControllerInv s) : ControllerInv (softReset s) := by
  refine controllerInv_reset h (by simp) ?_
  rw [softReset]
  refine slavesWf_busAbandon ?_
  exact h.slavesWf

theorem controllerInv_powerOnReset {s : State} (h : ControllerInv s) :
    ControllerInv (powerOnReset s) := by
  refine controllerInv_reset h (by simp [powerOnReset]) ?_
  rw [powerOnReset]
  refine slavesWf_busAbandon ?_
  exact h.slavesWf

/-- A write of CR: a disabled device is Idle afterwards, by BusAbandon or because it was (R122). -/
theorem controllerInv_writeCr {s : State} (w : Word) (h : ControllerInv s) :
    ControllerInv (writeCr w s) := by
  cases habandons : crEn s.cr && !crEn w
  · rw [writeCr_keeps w s habandons]
    have hen : crEn w = false → crEn s.cr = false := fun hw => by simpa [hw] using habandons
    exact { h with
      txfBound := by dsimp only; split <;> simp [h.txfBound]
      txrstEmpty := fun hrst => by simp_all
      disabledIdle := fun hw => h.disabledIdle (hen hw)
      disabledUnblocked := fun hw => h.disabledUnblocked (hen hw) }
  · rw [writeCr_abandons w s habandons]
    have hslaves : SlavesWf (busAbandon { s with cr := w, txf := if crTxrst w then [] else s.txf }) :=
      slavesWf_busAbandon h.slavesWf
    exact {
      txfBound := by simp only [busAbandon_txf, busAbandon_params]; split <;> simp [h.txfBound]
      rxfBound := by simpa using h.rxfBound
      txrstEmpty := fun hrst => by simp_all
      disabledIdle := fun _ => busAbandon_ls _
      disabledUnblocked := fun _ => busAbandon_framingBlocked _
      rxCount := fun n hn => by simp at hn
      rxPirqField := by simpa using h.rxPirqField
      faultsNodup := by simpa using h.faultsNodup
      refusedNodup := by simpa using h.refusedNodup
      slavesWf := hslaves }

/-- A write of the transmit FIFO pushes only where there is room and TXRST is 0 (R126). -/
theorem controllerInv_writeTxFifo {s : State} (w : Word) (h : ControllerInv s) :
    ControllerInv (writeTxFifo w s) := by
  rw [writeTxFifo]
  split
  · exact h
  next hrst =>
    split
    · exact controllerInv_recordFault _ h
    next hroom =>
      have hbound := h.txfBound
      exact { h with
        txfBound := by simp only [List.length_append, List.length_singleton]; omega
        txrstEmpty := fun hcr => absurd hcr hrst }

theorem rxPirqField_lt (p : Params) (w : Word) : (rxPirqField p w).toNat < 2 ^ rxPirqBits p := by
  rw [rxPirqField, BitVec.toNat_ofNat]
  exact (Nat.mod_le _ _).trans_lt (Nat.mod_lt _ (Nat.two_pow_pos _))

theorem controllerInv_portEffect {s c : State} (h : ControllerInv s) (hc : PortEffect s c) :
    ControllerInv c := by
  cases hc with
  | none => exact h
  | pop =>
    unfold readRxFifo
    dsimp only
    split
    · exact controllerInv_recordFault _ { h with }
    next b rest hrxf =>
      have hbound := h.rxfBound
      rw [hrxf, List.length_cons] at hbound
      exact { h with rxfBound := by dsimp only; omega }
  | write r w =>
    cases r with
    | isr | gpo => exact { h with }
    | rxPirq => exact { h with rxPirqField := rxPirqField_lt _ _ }
    | cr => exact controllerInv_writeCr w h
    | txFifo => exact controllerInv_writeTxFifo w h
    | softr =>
      rw [portWrite, writeSoftr]
      split
      · exact controllerInv_softReset h
      · exact controllerInv_markRefused _ h

/-! ### The controller's part under the bus side (45_bus_side.md R211 to R222) -/

/-- An enabled step is that of the line state, on an enabled device without a framing fault (R211). -/
theorem busMove_eq_some {s : State} {m : BusMove} (h : busMove s = some m) :
    crEn s.cr = true ∧ crMsms s.cr = false ∧ s.framingBlocked = false ∧ lineMove s = some m := by
  unfold busMove at h
  split at h
  next hon => simp_all
  next => cases h

/-- What the line state and the FIFOs say where a step is enabled (R212 to R221). -/
def MoveFits (s : State) : BusMove → Prop
  | .popStart e => s.ls = .idle ∧ s.txf.head? = some e ∧ entryStart e = true ∧ s.env.extBusy = false
  | .popRepStart e => s.ls = .txWait ∧ s.txf.head? = some e ∧ entryStart e = true
  | .popData e => s.ls = .txWait ∧ s.txf.head? = some e ∧ entryStart e = false
  | .popCount e => s.ls = .rxCountWait ∧ s.txf.head? = some e ∧ countEntry e = true
  | .framing e => (s.ls = .idle ∨ s.ls = .rxCountWait) ∧ s.txf.head? = some e
  | .addrDone b stop => s.ls = .sendAddr b stop
  | .dataDone b stop => s.ls = .sendData b stop
  | .recv n => s.ls = .rx n ∧ s.rxf.length < s.params.rxDepth
  | .stop halt => s.ls = .stopping halt

theorem moveFits_of_lineMove {s : State} {m : BusMove} (h : lineMove s = some m) : MoveFits s m := by
  unfold lineMove at h
  repeat' split at h
  all_goals cases h
  all_goals simp_all [MoveFits]

/-- The bus side only takes entries off the transmit FIFO, one at a time and the oldest first. -/
theorem doMove_txf (m : BusMove) (s : State) :
    (doMove m s).txf = s.txf ∨ (doMove m s).txf = s.txf.tail := by
  cases m
  case popStart | popRepStart | popData | popCount => exact .inr (by simp [doMove, popTx])
  case addrDone | dataDone =>
    left
    simp only [doMove, orLost]
    split <;> simp
  all_goals exact .inl (by simp [doMove])

/-- It adds at most one byte to the receive FIFO, and only where there is room (R220). -/
theorem doMove_rxf {m : BusMove} {s : State} (h : MoveFits s m) : (doMove m s).rxf = s.rxf ∨
    (s.rxf.length < s.params.rxDepth ∧ ∃ b, (doMove m s).rxf = s.rxf ++ [b]) := by
  cases m
  case recv n => exact .inr ⟨h.2, (askByte s).1, by simp [doMove, recv]⟩
  case addrDone | dataDone =>
    left
    simp only [doMove, orLost]
    split <;> simp
  all_goals exact .inl (by simp [doMove])

/-- An answered address byte never leads to receiving at once. -/
theorem addrDone_ls_ne_rx {b : Byte} {stop : Bool} {s : State} (hs : ∀ n, s.ls ≠ .rx n) (n : Nat) :
    (addrDone b stop s).ls ≠ .rx n := by
  simp only [addrDone, addrAcked, notAcknowledged]
  repeat' split
  all_goals simp [hs]

/-- Receiving starts with the count of a count entry and goes down one by one (R215, R220). -/
theorem doMove_rxCount {m : BusMove} {s : State} (h : MoveFits s m)
    (hs : ∀ n, s.ls = .rx n → 1 ≤ n ∧ n ≤ 255) (n : Nat) (hn : (doMove m s).ls = .rx n) :
    1 ≤ n ∧ n ≤ 255 := by
  cases m with
  | popCount e =>
    obtain ⟨-, -, hcount⟩ := h
    have hdata : entryData e ≠ 0#8 := by
      simp only [countEntry, Bool.and_eq_true, bne_iff_ne] at hcount
      exact hcount.2
    cases hn
    bv_omega
  | recv k =>
    have hk := hs k h.1
    simp only [doMove, recv] at hn
    split at hn <;> cases hn
    omega
  | framing e => exact hs n (by simpa [doMove] using hn)
  | addrDone b stop =>
    simp only [doMove, orLost] at hn
    split at hn
    · simp at hn
    · exact absurd hn (addrDone_ls_ne_rx (by simp [show s.ls = _ from h]) n)
  | dataDone b stop =>
    simp only [doMove, orLost, dataDone, notAcknowledged] at hn
    repeat' split at hn
    all_goals simp at hn
  | stop halt => cases halt <;> cases hn
  | popStart e | popRepStart e | popData e => cases hn

theorem doMove_faultsNodup (m : BusMove) {s : State} (h : s.faults.Nodup) :
    (doMove m s).faults.Nodup := by
  cases m
  case framing e => exact recordFault_nodup _ { s with framingBlocked := true } h
  case addrDone b stop =>
    simp only [doMove, orLost, addrDone, addrAcked, raiseFraming]
    repeat' split
    case _ => simpa using h
    case _ => exact recordFault_nodup _ _ (by simpa using h)
    all_goals simpa using h
  case dataDone b stop =>
    simp only [doMove, orLost]
    split <;> simpa using h
  all_goals simpa [doMove] using h

/-- The slaves see at most one event of a bus-side step. -/
theorem doMove_oracle (m : BusMove) (s : State) : (doMove m s).env.oracle = s.env.oracle ∨
    ∃ ev e, e.oracle = s.env.oracle ∧ (doMove m s).env.oracle = (observe ev e).oracle := by
  have hlost : ∀ done : State → State, ((askLost s).1 = false →
      ∃ ev e, e.oracle = s.env.oracle ∧ (done (askLost s).2).env = observe ev e) →
      ∃ ev e, e.oracle = s.env.oracle ∧ (orLost done s).env.oracle = (observe ev e).oracle := by
    intro done hdone
    simp only [orLost]
    split
    next => exact ⟨.lost, (askLost s).2.env, by simp, by simp [loseArbitration]⟩
    next h =>
      obtain ⟨ev, e, he, henv⟩ := hdone (by simpa using h)
      exact ⟨ev, e, he, by rw [henv]⟩
  cases m with
  | popStart e => exact .inr ⟨.start, s.env, rfl, by simp [doMove]⟩
  | popRepStart e => exact .inr ⟨.rstart, s.env, rfl, by simp [doMove]⟩
  | popData e | popCount e | framing e => exact .inl (by simp [doMove])
  | addrDone b stop =>
    refine .inr (hlost _ fun _ => ⟨.addr b (askAck (.addr b) (askLost s).2).1,
      (askAck (.addr b) (askLost s).2).2.env, by simp, ?_⟩)
    simp only [addrDone]
    split <;> simp
  | dataDone b stop =>
    refine .inr (hlost _ fun _ => ⟨.txb b (askAck (.txb b) (askLost s).2).1,
      (askAck (.txb b) (askLost s).2).2.env, by simp, ?_⟩)
    simp only [dataDone]
    split <;> simp
  | recv n =>
    exact .inr ⟨.rxb (askByte s).1 (decide (1 < n)), (askByte s).2.env, by simp,
      by simp [doMove, recv]⟩
  | stop halt => exact .inr ⟨.stop, s.env, rfl, by simp [doMove, stopDone]⟩

theorem slavesWf_doMove (m : BusMove) {s : State} (h : SlavesWf s) : SlavesWf (doMove m s) := by
  rcases doMove_oracle m s with heq | ⟨ev, e, he, heq⟩
  · rwa [SlavesWf, heq]
  · exact slavesWf_observe ev e h he heq

theorem controllerInv_doMove {m : BusMove} {s : State} (hm : busMove s = some m)
    (h : ControllerInv s) : ControllerInv (doMove m s) := by
  obtain ⟨hen, -, -, hline⟩ := busMove_eq_some hm
  have hfits := moveFits_of_lineMove hline
  have htail : (doMove m s).txf.length ≤ s.txf.length := by
    rcases doMove_txf m s with heq | heq <;> simp [heq]
  constructor
  case txfBound => rw [doMove_params]; exact htail.trans h.txfBound
  case rxfBound =>
    have hbound := h.rxfBound
    rcases doMove_rxf hfits with heq | ⟨hroom, b, heq⟩ <;> rw [doMove_params, heq]
    · exact hbound
    · rw [List.length_append]; exact hroom
  case txrstEmpty =>
    rw [doMove_cr]
    intro hrst
    simpa [h.txrstEmpty hrst] using htail
  case disabledIdle | disabledUnblocked =>
    rw [doMove_cr, hen]
    intro hdis
    cases hdis
  case rxCount => exact doMove_rxCount hfits h.rxCount
  case rxPirqField => rw [doMove_rxPirq, doMove_params]; exact h.rxPirqField
  case faultsNodup => exact doMove_faultsNodup m h.faultsNodup
  case refusedNodup => rw [doMove_refused]; exact h.refusedNodup
  case slavesWf => exact slavesWf_doMove m h.slavesWf

/-! ### The controller's part under any turn -/

theorem controllerInv_engineTurn {s t : State} (h : ControllerInv s) (ht : EngineTurn s t) :
    ControllerInv t := by
  have hask := controllerInv_afterAsk h
  cases ht with
  | refused => exact controllerInv_markRefused _ h
  | returned v => exact { h with }
  | failed =>
    exact (controllerInv_recordFault (.accessFault s.eng.upc _ _) hask).congr
      (by simp [failedAt, recordFault_eq]; rfl)
  | stepped hl hstep =>
    obtain ⟨c, hc, ht⟩ := hstep.effect
    rw [ht]
    exact { controllerInv_portEffect hask hc with }

theorem controllerInv_hostTurn {a : HostAction} {s t : State} (h : ControllerInv s)
    (ht : HostTurn a s t) : ControllerInv t := by
  have hask := controllerInv_afterAsk h
  cases ht with
  | pass => exact h
  | refused r => exact controllerInv_markRefused r h
  | returned | acknowledged | admitted => exact { h with }
  | reset => exact controllerInv_powerOnReset h
  | failed => exact { hask with }
  | read r => exact { controllerInv_portEffect hask (.of_read r _) with }
  | write r w => exact { controllerInv_portEffect hask (.write r w) with }

/-! ### The engine's part under its own steps (44_transaction_engine.md section 4) -/

/-- The labels that lead to one another inside a step table. -/
def successions : List (Label × Label) :=
  crReads ++ crWrites.map (fun w => (w.1, w.2.2.2)) ++
    [(.ci0, .ci1), (.p0, .p1), (.p1, .p2), (.p6, .p7), (.p7, .p8), (.w0, .w1), (.w1, .w1), (.w1, .w2),
      (.w2, .w3), (.w3, .w4), (.g0, .g1), (.g1, .g2), (.g2, .g3), (.g3, .g2), (.g3, .g4), (.g4, .g5),
      (.s0, .s1), (.s1, .s2), (.s2, .s3), (.s3, .s4), (.s4, .s5), (.s5, .s4), (.s5, .s6), (.s6, .s7)]

/-- Each step table is closed under them. -/
theorem stepLabels_closed (i : Instr) :
    ∀ p ∈ successions, p.1 ∈ stepLabels i → p.2 ∈ stepLabels i := by
  cases i <;> simp only [stepLabels] <;> decide

theorem afterPrologue_mem {i : Instr} (hp : .p0 ∈ stepLabels i) : afterPrologue i ∈ stepLabels i := by
  cases i <;> simp only [stepLabels, afterPrologue] at hp ⊢ <;> revert hp <;> decide

/-- A transaction moves at least one byte (30_encoding.md R98). -/
theorem transferCount_pos {i : Instr} {l : Label} (hwf : i.wf = true) (hl : l ∈ stepLabels i)
    (hown : l ∈ [Label.w0, .g1, .s3]) : 0 < transferCount i := by
  have hpos : ∀ {count : Byte}, countOk count = true → 0 < count.toNat := by
    intro count h
    simp only [countOk, bne_iff_ne] at h
    bv_omega
  cases i
  case writeReg =>
    simp only [Instr.wf, Bool.and_eq_true] at hwf
    exact hpos hwf.1
  case readReg => exact hpos hwf
  case readRegSel => exact hpos hwf
  all_goals
    simp only [List.mem_cons, List.not_mem_nil, or_false] at hown
    rcases hown with rfl | rfl | rfl <;> simp [stepLabels, prologueLabels] at hl

/-- The labels at which the loop index matters. -/
def loopLabels : List Label := [.w1, .g2, .g3, .s4, .s5]

/-- A step to the next label of the table. -/
theorem EngineInv.of_succession {s t : State} (h : EngineInv s) (hm : s.eng.mode = .run)
    (hcmd : t.eng.cmd = s.eng.cmd) (hnext : (s.eng.upc, t.eng.upc) ∈ successions)
    (hloop : t.eng.upc ∈ loopLabels → t.eng.i.toNat < transferCount s.eng.cmd)
    (hwait : t.eng.upc ∈ [Label.g3, .s5] → t.rxf ≠ []) : EngineInv t := by
  obtain ⟨hk, hwf, hl⟩ := h.running hm
  exact ⟨fun _ => hcmd ▸ ⟨hk, hwf, stepLabels_closed _ _ hnext hl⟩, fun _ => hcmd ▸ hloop,
    fun _ => hwait⟩

/-- A step to a label outside the loops. -/
theorem EngineInv.of_plain {s t : State} (pairs : List (Label × Label)) (h : EngineInv s)
    (hm : s.eng.mode = .run) (hcmd : t.eng.cmd = s.eng.cmd)
    (hnext : (s.eng.upc, t.eng.upc) ∈ pairs)
    (hpairs : ∀ p ∈ pairs, p ∈ successions ∧ p.2 ∉ loopLabels) : EngineInv t := by
  obtain ⟨hmem, hplain⟩ := hpairs _ hnext
  have hsub : ∀ l ∈ [Label.g3, .s5], l ∈ loopLabels := by decide
  exact h.of_succession hm hcmd hmem (fun hl => absurd hl hplain)
    fun hl => absurd (hsub _ hl) hplain

/-- A step that stays at its label with the index and the bytes received as they are. -/
theorem EngineInv.of_stay {s t : State} (h : EngineInv s) (hm : t.eng.mode = s.eng.mode)
    (hcmd : t.eng.cmd = s.eng.cmd) (hupc : t.eng.upc = s.eng.upc) (hi : t.eng.i = s.eng.i)
    (hrxf : t.rxf = s.rxf) : EngineInv t := by
  constructor <;> rw [hm, hupc]
  · rw [hcmd]; exact h.running
  · rw [hcmd, hi]; exact h.loopIndex
  · rw [hrxf]; exact h.byteWaiting

/-- The end of a loop's body: the index goes up, and the loop goes on only below the count. -/
theorem EngineInv.of_countLoop {s u : State} {count : Byte} {again leave : Label} (h : EngineInv s)
    (hm : s.eng.mode = .run) (heng : u.eng.cmd = s.eng.cmd)
    (hc : transferCount s.eng.cmd = count.toNat)
    (hlabels : (s.eng.upc, again, leave) ∈
      [(Label.w1, Label.w1, Label.w2), (.g3, .g2, .g4), (.s5, .s4, .s6)]) :
    EngineInv (countLoop count again leave u) := by
  have hpairs : ∀ p ∈ [(Label.w1, Label.w1, Label.w2), (.g3, .g2, .g4), (.s5, .s4, .s6)],
      (p.1, p.2.1) ∈ successions ∧ (p.1, p.2.2) ∈ successions ∧ p.2.1 ∉ [Label.g3, .s5] ∧
        p.2.2 ∉ loopLabels ∧ p.2.2 ∉ [Label.g3, .s5] := by decide
  obtain ⟨hagain, hleave, hnotWaiting, hout, hnotWaiting'⟩ := hpairs _ hlabels
  unfold countLoop
  dsimp only
  split
  next hlt =>
    refine h.of_succession hm heng hagain (fun _ => ?_) fun hw => absurd hw hnotWaiting
    rw [hc]
    exact hlt
  next =>
    exact h.of_succession hm heng hleave (fun hl => absurd hl hout) fun hw => absurd hw hnotWaiting'

theorem engineInv_engineStep {s t : State} (h : EngineInv s) (hm : s.eng.mode = .run)
    (hstep : EngineStep s.eng.cmd s t) : EngineInv t := by
  obtain ⟨hk, hwf, hl⟩ := h.running hm
  cases hstep
  case readStatus | readFlags | clearIsrLast | toggleLast | readLast | writeLast | initLast |
      enqueueLast | dequeueLast =>
    exact .of_not_running (by simp)
  case saveIsr next hnext => exact h.of_plain _ hm rfl hnext (by decide)
  case clearIsr hupc => exact h.of_plain [(.p7, .p8)] hm rfl (by simp [hupc]) (by decide)
  case readCr next hnext => exact h.of_plain _ hm rfl hnext (by decide)
  case writeCr bit value next hnext =>
    exact h.of_plain (crWrites.map fun w => (w.1, w.2.2.2)) hm (by simp)
      (List.mem_map.mpr ⟨_, hnext, rfl⟩) (by decide)
  case softReset hupc => exact h.of_plain [(.p0, .p1)] hm (by simp) (by simp [hupc]) (by decide)
  case threshold hupc => exact h.of_plain [(.p1, .p2)] hm rfl (by simp [hupc]) (by decide)
  case pollAgain => exact h.of_stay rfl rfl rfl rfl (by simp)
  case leavePrologue hupc hinit hp =>
    have hplain : afterPrologue s.eng.cmd ∉ loopLabels ∧
        afterPrologue s.eng.cmd ∉ [Label.g3, .s5] := by
      cases s.eng.cmd <;> exact ⟨by simp [afterPrologue, loopLabels], by simp [afterPrologue]⟩
    exact ⟨fun _ => ⟨hk, hwf, afterPrologue_mem hp⟩, fun _ hl => absurd hl hplain.1,
      fun _ hl => absurd hl hplain.2⟩
  case leaveWritePoll hupc => exact h.of_plain [(.w2, .w3)] hm rfl (by simp [hupc]) (by decide)
  case leaveReceivePoll next hnext hrxf =>
    have hpairs : ∀ p ∈ [(Label.g2, Label.g3), (.s4, .s5)],
        p ∈ successions ∧ p.1 ∈ loopLabels := by decide
    obtain ⟨hmem, hloop⟩ := hpairs _ hnext
    exact h.of_succession hm rfl hmem (fun _ => h.loopIndex hm hloop) fun _ => by simpa using hrxf
  case saveFlags hupc => exact h.of_plain [(.w3, .w4)] hm rfl (by simp [hupc]) (by decide)
  case diagnose next hnext => exact h.of_plain _ hm rfl hnext (by decide)
  case enqueue e next hnext => exact h.of_plain _ hm (by simp) hnext (by decide)
  case enqueueFirst e next hnext =>
    have hpairs : ∀ p ∈ [(Label.w0, Label.w1), (.g1, .g2), (.s3, .s4)],
        p ∈ successions ∧ p.1 ∈ [Label.w0, .g1, .s3] ∧ p.2 ∉ [Label.g3, .s5] := by decide
    obtain ⟨hmem, hown, hnotWaiting⟩ := hpairs _ hnext
    exact h.of_succession hm (by simp) hmem (fun _ => transferCount_pos hwf hl hown)
      fun hw => absurd hw hnotWaiting
  case enqueueByte e count hupc hc =>
    exact h.of_countLoop hm (by simp) hc (by simp [hupc])
  case dequeue again leave count hlabels hc =>
    exact h.of_countLoop hm (by simp) hc (List.mem_cons_of_mem _ hlabels)

/-! ### The result bytes -/

theorem dataInv_memWrite {data : Memory} {k : Nat} (b : Byte) (h : DataInv data) (hk : k < 255) :
    DataInv (memWrite data k b) where
  wf := memWrite_wf data h.wf k b
  bound c hc := by
    rcases mem_memWrite data k b c hc with rfl | hc
    · exact hk
    · exact h.bound c hc

/-- A dequeue stores at the loop index, which is below a count of at most 255 (R188). -/
theorem dataInv_engineStep {s t : State} (he : EngineInv s) (h : DataInv s.res.data)
    (hm : s.eng.mode = .run) (hstep : EngineStep s.eng.cmd s t) : DataInv t.res.data := by
  cases hstep
  case dequeueLast => simpa using dataInv_memWrite _ h (by decide)
  case dequeue again leave count hlabels hc =>
    have hpairs : ∀ p ∈ [(Label.g3, Label.g2, Label.g4), (.s5, .s4, .s6)], p.1 ∈ loopLabels := by
      decide
    have hindex := he.loopIndex hm (hpairs _ hlabels)
    have hcount := count.isLt
    simpa [countLoop] using dataInv_memWrite _ h (by omega)
  all_goals simpa [countLoop] using h

/-! ### Every turn keeps the invariant -/

theorem inv_engineTurn {s t : State} (h : Inv s) (hm : s.eng.mode = .run) (ht : EngineTurn s t) :
    Inv t := by
  obtain ⟨hc, he, hd⟩ := (inv_iff s).mp h
  refine (inv_iff t).mpr ⟨controllerInv_engineTurn hc ht, ?_⟩
  cases ht with
  | refused => exact ⟨he.congr (by simp) (by simp), by simpa using hd⟩
  | returned v => exact ⟨he.congr rfl id, hd⟩
  | failed => exact ⟨.of_not_running (by simp [failedAt]), hd⟩
  | stepped hl hstep => exact ⟨engineInv_engineStep he hm hstep, dataInv_engineStep he hd hm hstep⟩

/-- The first label of a command is no loop's. -/
theorem firstLabel_not_loop (i : Instr) :
    firstLabel i ∉ loopLabels ∧ firstLabel i ∉ [Label.g3, .s5] := by
  cases i <;> exact ⟨by simp [firstLabel, loopLabels], by simp [firstLabel]⟩

theorem inv_hostTurn {a : HostAction} {s t : State} (h : Inv s) (ht : HostTurn a s t) : Inv t := by
  obtain ⟨hc, he, hd⟩ := (inv_iff s).mp h
  refine (inv_iff t).mpr ⟨controllerInv_hostTurn hc ht, ?_⟩
  cases ht with
  | pass => exact ⟨he, hd⟩
  | refused r => exact ⟨he.congr (by simp) (by simp), by simpa using hd⟩
  | returned v => exact ⟨he.congr rfl id, hd⟩
  | acknowledged => exact ⟨.of_not_running (by simp), hd⟩
  | reset =>
    exact ⟨.of_not_running (by simp [Engine.reset]),
      by simp [powerOnReset, Results.reset, Memory.wf], by simp [powerOnReset, Results.reset]⟩
  | failed hm => exact ⟨.of_not_running (by simp [hm]), by simpa using hd⟩
  | read r v hm => exact ⟨.of_not_running (by simp [hm]), by simpa using hd⟩
  | write r w v hm => exact ⟨.of_not_running (by simp [hm]), by simpa using hd⟩
  | admitted i hk hwf =>
    obtain ⟨hloop, hwait⟩ := firstLabel_not_loop i
    exact ⟨⟨fun _ => ⟨hk, hwf, List.mem_of_mem_head? (head_stepLabels hk)⟩,
      fun _ hl => absurd hl hloop, fun _ hl => absurd hl hwait⟩, hd⟩

theorem inv_turn {a : Agent} {s t : State} (h : Inv s) (ht : Turn s a t) : Inv t := by
  cases ht with
  | pass => exact h
  | host hi ht =>
    refine inv_hostTurn ?_ ht
    exact { h with }
  | engine hm ht => exact inv_engineTurn h hm ht
  | static =>
    obtain ⟨hc, he, hd⟩ := (inv_iff s).mp h
    exact (inv_iff _).mpr ⟨controllerInv_markRefused _ hc, he.congr (by simp) (by simp),
      by simpa using hd⟩
  | move m hm =>
    obtain ⟨hc, he, hd⟩ := (inv_iff s).mp h
    have hrxf : s.rxf ≠ [] → (doMove m s).rxf ≠ [] := by
      rcases doMove_rxf (moveFits_of_lineMove (busMove_eq_some hm).2.2.2) with heq | ⟨-, b, heq⟩ <;>
        simp [heq]
    exact (inv_iff _).mpr ⟨controllerInv_doMove hm hc, he.congr (doMove_eng m s) hrxf,
      by rwa [doMove_res]⟩
  | env => exact { h with }

/-- Settles O57: each part of the invariant under each agent's turn. -/
theorem stepKeepsInvariant : Obligations.StepKeepsInvariant := by
  intro s t h hstep
  obtain ⟨ts, d, hturn⟩ := turn_of_step hstep
  refine inv_turn ?_ hturn
  exact { h with }

/-- The reset state: nothing queued, nothing running (10_state.md R41). -/
theorem inv_reset : Inv State.reset where
  txfBound := by decide
  rxfBound := by decide
  txrstEmpty _ := rfl
  disabledIdle _ := rfl
  disabledUnblocked _ := rfl
  rxCount _ h := by cases h
  rxPirqField := by decide
  running h := by cases h
  loopIndex h := by cases h
  byteWaiting h := by cases h
  dataWf := by decide
  dataBound := by decide
  faultsNodup := .nil
  refusedNodup := .nil
  slavesWf := trivial

end Sys2Proof.Machine
end

section
/-! PROOFS. What a transaction relies on (44_transaction_engine.md section 2, 70_reset_and_hazards.md
R292, R302): the facts of `TransactionFacts` label by label, kept by every turn, and the promises that
follow from them. -/

namespace Sys2Proof.Machine

/-! ### The facts at one label -/

/-- The facts of `TransactionFacts` about an engine that stands at the label `l` with the loop index `i`
and `tmp` in `eng.tmp`, on the controller of `s`. -/
structure FactsAt (l : Label) (tmp : Word) (i : Byte) (s : State) : Prop where
  clean : l ∈ cleanLabels → s.txf = [] ∧ s.rxf = [] ∧ s.ls = .idle ∧ s.framingBlocked = false
  crZero : l ∈ [Label.p1, .p2, .p3, .p6, .p7, .p8, .p9] → s.cr = 0x00000000#32
  crHeld : l ∈ [Label.p4, .p5] → s.cr = 0x00000002#32
  crEnabled : l ∈ enabledLabels → s.cr = 0x00000001#32
  tmpZero : l ∈ [Label.p3, .p9] → tmp = 0x00000000#32
  tmpHeld : l = .p5 → tmp = 0x00000002#32
  tmpEnabled : l ∈ [Label.p11, .p13, .w5, .g6, .s8] → tmp = 0x00000001#32
  isrClear : l ∈ [Label.p8, .p9, .p10, .p11, .p12, .p13, .p14, .w0, .g0, .s0] → s.isr = 0x00#8
  threshold : l ∈ cleanLabels → l ≠ .p1 → s.rxPirq = rxPirqField s.params s.params.rxPirqInit
  queued : ∀ n, queuedAtMost l i = some n → s.txf.length ≤ n

theorem transactionFacts_iff (s : State) : TransactionFacts s ↔
    (s.eng.mode = .run → FactsAt s.eng.upc s.eng.tmp s.eng.i s) := by
  constructor
  · intro h hm
    exact ⟨h.clean hm, h.crZero hm, h.crHeld hm, h.crEnabled hm, h.tmpZero hm, h.tmpHeld hm,
      h.tmpEnabled hm, h.isrClear hm, h.threshold hm, h.queued hm⟩
  · intro h
    exact ⟨fun hm => (h hm).clean, fun hm => (h hm).crZero, fun hm => (h hm).crHeld,
      fun hm => (h hm).crEnabled, fun hm => (h hm).tmpZero, fun hm => (h hm).tmpHeld,
      fun hm => (h hm).tmpEnabled, fun hm => (h hm).isrClear, fun hm => (h hm).threshold,
      fun hm => (h hm).queued⟩

/-- The facts at a label depend on the controller alone. -/
theorem FactsAt.congr {l : Label} {tmp : Word} {i : Byte} {s t : State} (h : FactsAt l tmp i s)
    (he : t.params = s.params ∧ t.cr = s.cr ∧ t.isr = s.isr ∧ t.rxPirq = s.rxPirq ∧ t.txf = s.txf ∧
      t.rxf = s.rxf ∧ t.ls = s.ls ∧ t.framingBlocked = s.framingBlocked) : FactsAt l tmp i t := by
  obtain ⟨hp, hcr, hisr, hpirq, htxf, hrxf, hls, hfb⟩ := he
  exact {
    clean := by rw [htxf, hrxf, hls, hfb]; exact h.clean
    crZero := by rw [hcr]; exact h.crZero
    crHeld := by rw [hcr]; exact h.crHeld
    crEnabled := by rw [hcr]; exact h.crEnabled
    tmpZero := h.tmpZero
    tmpHeld := h.tmpHeld
    tmpEnabled := h.tmpEnabled
    isrClear := by rw [hisr]; exact h.isrClear
    threshold := by rw [hpirq, hp]; exact h.threshold
    queued := by rw [htxf]; exact h.queued }

/-- The labels the facts speak of. -/
def factLabels : List Label := cleanLabels ++ enabledLabels

/-- The labels with a fact about `eng.tmp`. -/
def tmpLabels : List Label := [.p3, .p5, .p9, .p11, .p13, .w5, .g6, .s8]

/-- The labels after the first entry of a transaction at which more entries are queued. -/
def queueLabels : List Label := [.w1, .g1, .s1, .s2, .s3]

/-- The labels from which ISR is known to be clear. -/
def isrClearLabels : List Label :=
  [.p8, .p9, .p10, .p11, .p12, .p13, .p14, .w0, .g0, .s0]

/-- At the labels of the other operations, and at P0, there is nothing to keep. -/
theorem FactsAt.of_not_mem {l : Label} (tmp : Word) (i : Byte) (s : State) (h : l ∉ factLabels) :
    FactsAt l tmp i s := by
  cases l
  case rs0 | ri0 | ci0 | ci1 | t0 | t1 | eq0 | dq0 | p0 =>
    exact ⟨by simp [cleanLabels], by simp, by simp, by simp [enabledLabels], by simp, by simp,
      by simp, by simp, by simp [cleanLabels], by simp [queuedAtMost]⟩
  all_goals exact absurd (by decide) h

theorem not_mem_tmpLabels {l : Label} (h : l ∉ tmpLabels) :
    l ∉ [Label.p3, .p9] ∧ l ≠ .p5 ∧ l ∉ [Label.p11, .p13, .w5, .g6, .s8] := by
  refine ⟨fun hl => h ?_, fun hl => h (by subst hl; decide), fun hl => h ?_⟩
  · exact (show [Label.p3, .p9] ⊆ tmpLabels by decide) hl
  · exact (show [Label.p11, .p13, .w5, .g6, .s8] ⊆ tmpLabels by decide) hl

/-- Only at the enqueue labels after the first is the number of entries queued other than 0. -/
theorem mem_cleanLabels_of_queuedAtMost {l : Label} {i : Byte} {n : Nat}
    (h : queuedAtMost l i = some n) (hl : l ∉ queueLabels) : l ∈ cleanLabels := by
  cases l
  case w1 | g1 | s1 | s2 | s3 => exact absurd (by decide) hl
  case w0 | g0 | s0 => decide
  all_goals cases h

/-- What holds of the controller at the label `a` is all that is to hold at the label `b` after it. -/
abbrev Carries (a b : Label) : Prop :=
  (b ∈ cleanLabels → a ∈ cleanLabels ∧ (b ≠ .p1 → a ≠ .p1)) ∧
    (b ∈ [Label.p1, .p2, .p3, .p6, .p7, .p8, .p9] → a ∈ [Label.p1, .p2, .p3, .p6, .p7, .p8, .p9]) ∧
    (b ∈ [Label.p4, .p5] → a ∈ [Label.p4, .p5]) ∧ (b ∈ enabledLabels → a ∈ enabledLabels) ∧
    (b ∈ isrClearLabels → a ∈ isrClearLabels) ∧ b ∉ queueLabels

/-- A step that leaves the controller alone: the facts go along with the label. -/
theorem FactsAt.of_carries {a b : Label} {tmp tmp' : Word} {i i' : Byte} {s : State}
    (h : FactsAt a tmp i s) (hab : Carries a b)
    (hzero : b ∈ [Label.p3, .p9] → tmp' = 0x00000000#32) (hheld : b = .p5 → tmp' = 0x00000002#32)
    (henabled : b ∈ [Label.p11, .p13, .w5, .g6, .s8] → tmp' = 0x00000001#32) :
    FactsAt b tmp' i' s := by
  obtain ⟨hclean, hcrZero, hcrHeld, hcrEnabled, hisr, hqueue⟩ := hab
  exact {
    clean := fun hb => h.clean (hclean hb).1
    crZero := fun hb => h.crZero (hcrZero hb)
    crHeld := fun hb => h.crHeld (hcrHeld hb)
    crEnabled := fun hb => h.crEnabled (hcrEnabled hb)
    tmpZero := hzero
    tmpHeld := hheld
    tmpEnabled := henabled
    isrClear := fun hb => h.isrClear (hisr hb)
    threshold := fun hb hne => h.threshold (hclean hb).1 ((hclean hb).2 hne)
    queued := fun n hn => by
      rw [(h.clean (hclean (mem_cleanLabels_of_queuedAtMost hn hqueue)).1).1]
      exact Nat.zero_le n }

/-- The same for a label without a fact about `eng.tmp`. -/
theorem FactsAt.of_carries_free {a b : Label} {tmp tmp' : Word} {i i' : Byte} {s : State}
    (h : FactsAt a tmp i s) (hab : Carries a b ∧ b ∉ tmpLabels) : FactsAt b tmp' i' s := by
  obtain ⟨hzero, hheld, henabled⟩ := not_mem_tmpLabels hab.2
  exact h.of_carries hab.1 (fun hk => absurd hk hzero) (fun hk => absurd hk hheld)
    fun hk => absurd hk henabled

/-- A read of CR into `eng.tmp`. -/
theorem FactsAt.of_readCr {a b : Label} {tmp : Word} {i : Byte} {s : State} (h : FactsAt a tmp i s)
    (hab : (a, b) ∈ crReads) : FactsAt b s.cr i s := by
  have hlabels : ∀ p ∈ crReads, Carries p.1 p.2 ∧
      (p.2 ∈ [Label.p3, .p9] → p.1 ∈ [Label.p1, .p2, .p3, .p6, .p7, .p8, .p9]) ∧
      (p.2 = .p5 → p.1 ∈ [Label.p4, .p5]) ∧
      (p.2 ∈ [Label.p11, .p13, .w5, .g6, .s8] → p.1 ∈ enabledLabels) := by decide
  obtain ⟨hcarries, hzero, hheld, henabled⟩ := hlabels _ hab
  exact h.of_carries hcarries (fun hb => h.crZero (hzero hb)) (fun hb => h.crHeld (hheld hb))
    fun hb => h.crEnabled (henabled hb)

/-- A write of CR with nothing queued, nothing received and no transfer open leaves it so. -/
theorem writeCr_of_clean (w : Word) {s : State}
    (h : s.txf = [] ∧ s.rxf = [] ∧ s.ls = .idle ∧ s.framingBlocked = false) :
    writeCr w s = { s with cr := w } := by
  obtain ⟨htxf, -, hls, hfb⟩ := h
  have hown : ownBusy s.ls = false := by rw [hls]; rfl
  simp [writeCr_eq, hown, ← hls, ← hfb, ← htxf]

/-- A write of CR in the prologue: the word that the facts ask for next. -/
theorem FactsAt.of_writeCr {a b : Label} {bit : BitVec 5} {value : Bool} {tmp tmp' : Word}
    {i : Byte} {s : State} (h : FactsAt a tmp i s) (hab : (a, bit, value, b) ∈ crWrites) :
    FactsAt b tmp' i (writeCr (setBit tmp bit value) s) := by
  have hlabels : ∀ p ∈ crWrites, p.1 ∈ cleanLabels ∧ p.1 ≠ .p1 ∧ p.2.2.2 ∉ tmpLabels ∧
      p.2.2.2 ∉ queueLabels ∧ (p.2.2.2 ∈ isrClearLabels → p.1 ∈ isrClearLabels) := by decide
  obtain ⟨ha, hne, htmp, hqueue, hisr⟩ := hlabels _ hab
  have hclean := h.clean ha
  rw [writeCr_of_clean _ hclean]
  have hword : ∀ v, (a ∈ [Label.p3, .p9] → v = 0x00000000#32) → (a = .p5 → v = 0x00000002#32) →
      (a ∈ [Label.p11, .p13, .w5, .g6, .s8] → v = 0x00000001#32) →
      (b ∈ [Label.p1, .p2, .p3, .p6, .p7, .p8, .p9] → setBit v bit value = 0x00000000#32) ∧
      (b ∈ [Label.p4, .p5] → setBit v bit value = 0x00000002#32) ∧
      (b ∈ enabledLabels → setBit v bit value = 0x00000001#32) := by
    intro v hzero hheld henabled
    simp only [crWrites, List.mem_cons, Prod.mk.injEq, List.not_mem_nil, or_false] at hab
    rcases hab with ⟨rfl, rfl, rfl, rfl⟩ | ⟨rfl, rfl, rfl, rfl⟩ | ⟨rfl, rfl, rfl, rfl⟩ |
      ⟨rfl, rfl, rfl, rfl⟩ | ⟨rfl, rfl, rfl, rfl⟩
    · rw [hzero (by decide)]; decide
    · rw [hheld rfl]; decide
    · rw [hzero (by decide)]; decide
    · rw [henabled (by decide)]; decide
    · rw [henabled (by decide)]; decide
  obtain ⟨hzero, hheld, henabled⟩ := hword tmp h.tmpZero h.tmpHeld h.tmpEnabled
  obtain ⟨hnotZero, hnotHeld, hnotEnabled⟩ := not_mem_tmpLabels htmp
  exact {
    clean := fun _ => hclean
    crZero := hzero
    crHeld := hheld
    crEnabled := henabled
    tmpZero := fun hb => absurd hb hnotZero
    tmpHeld := fun hb => absurd hb hnotHeld
    tmpEnabled := fun hb => absurd hb hnotEnabled
    isrClear := fun hb => h.isrClear (hisr hb)
    threshold := fun _ _ => h.threshold ha hne
    queued := fun n _ => by simp [hclean.1] }

/-- Facts of the three labels of the prologue after a write that is not one of CR. -/
theorem FactsAt.of_disabled {l : Label} {tmp : Word} {i : Byte} {s : State}
    (hl : l ∈ [Label.p1, .p2, .p8])
    (hclean : s.txf = [] ∧ s.rxf = [] ∧ s.ls = .idle ∧ s.framingBlocked = false)
    (hcr : s.cr = 0x00000000#32) (hisr : l = .p8 → s.isr = 0x00#8)
    (hpirq : l ≠ .p1 → s.rxPirq = rxPirqField s.params s.params.rxPirqInit) :
    FactsAt l tmp i s := by
  have hlabels : ∀ k ∈ [Label.p1, .p2, .p8], k ∉ [Label.p4, .p5] ∧ k ∉ enabledLabels ∧
      k ∉ tmpLabels ∧ (k ∈ isrClearLabels → k = .p8) := by decide
  obtain ⟨hheld, hen, htmp, hclear⟩ := hlabels l hl
  obtain ⟨hnotZero, hnotHeld, hnotEnabled⟩ := not_mem_tmpLabels htmp
  exact {
    clean := fun _ => hclean
    crZero := fun _ => hcr
    crHeld := fun h => absurd h hheld
    crEnabled := fun h => absurd h hen
    tmpZero := fun h => absurd h hnotZero
    tmpHeld := fun h => absurd h hnotHeld
    tmpEnabled := fun h => absurd h hnotEnabled
    isrClear := fun h => hisr (hclear h)
    threshold := fun _ h => hpirq h
    queued := fun n _ => by simp [hclean.1] }

/-- Facts of a label after the first entry: the device stays enabled, and so many entries are queued. -/
theorem FactsAt.of_enabled {l : Label} {tmp : Word} {i : Byte} {s : State}
    (hl : l ∈ enabledLabels ∧ l ∉ cleanLabels ∧ l ∉ tmpLabels) (hcr : s.cr = 0x00000001#32)
    (hqueued : ∀ n, queuedAtMost l i = some n → s.txf.length ≤ n) : FactsAt l tmp i s := by
  have hlabels : ∀ k ∈ enabledLabels, k ∉ cleanLabels →
      k ∉ [Label.p1, .p2, .p3, .p6, .p7, .p8, .p9] ∧ k ∉ [Label.p4, .p5] ∧
        k ∉ [Label.p8, .p9, .p10, .p11, .p12, .p13, .p14, .w0, .g0, .s0] := by decide
  obtain ⟨hmem, hclean, htmp⟩ := hl
  obtain ⟨hzero, hheld, hisr⟩ := hlabels l hmem hclean
  obtain ⟨hnotZero, hnotHeld, hnotEnabled⟩ := not_mem_tmpLabels htmp
  exact {
    clean := fun h => absurd h hclean
    crZero := fun h => absurd h hzero
    crHeld := fun h => absurd h hheld
    crEnabled := fun _ => hcr
    tmpZero := fun h => absurd h hnotZero
    tmpHeld := fun h => absurd h hnotHeld
    tmpEnabled := fun h => absurd h hnotEnabled
    isrClear := fun h => absurd h hisr
    threshold := fun h => absurd h hclean
    queued := hqueued }

/-! ### The engine's own steps -/

theorem pushEntry_length_le (e : Entry) (s : State) :
    (pushEntry e s).txf.length ≤ s.txf.length + 1 := by
  rw [pushEntry]
  dsimp only
  split <;> simp

/-- A label reached with the controller as it was. -/
theorem FactsAt.goOn {a b : Label} {tmp tmp' : Word} {i i' : Byte} {s t : State}
    (h : FactsAt a tmp i s) (hab : Carries a b ∧ b ∉ tmpLabels)
    (he : t.params = s.params ∧ t.cr = s.cr ∧ t.isr = s.isr ∧ t.rxPirq = s.rxPirq ∧ t.txf = s.txf ∧
      t.rxf = s.rxf ∧ t.ls = s.ls ∧ t.framingBlocked = s.framingBlocked) : FactsAt b tmp' i' t :=
  (h.of_carries_free hab).congr he

/-- The facts at the engine's label are kept by a step that goes on. -/
theorem factsAt_engineStep {i : Instr} {s t : State} (hinv : EngineInv s)
    (hm : s.eng.mode = .run) (hcmd : s.eng.cmd = i)
    (h : FactsAt s.eng.upc s.eng.tmp s.eng.i s) (hstep : EngineStep i s t)
    (hgo : t.eng.mode = .run) :
    FactsAt t.eng.upc t.eng.tmp t.eng.i t := by
  have hask : FactsAt s.eng.upc s.eng.tmp s.eng.i (afterAsk s) := h.congr (by simp [afterAsk])
  cases hstep
  case readStatus | readFlags | clearIsrLast | toggleLast | readLast | writeLast | initLast |
      enqueueLast | dequeueLast =>
    simp at hgo
  case saveIsr next hnext =>
    have hpairs : ∀ p ∈ [(Label.ci0, Label.ci1), (.p6, .p7)], Carries p.1 p.2 ∧ p.2 ∉ tmpLabels := by
      decide
    exact hask.goOn (hpairs _ hnext) (by simp)
  case clearIsr hupc =>
    rw [hupc] at hask
    exact .of_disabled (l := .p8) (by decide) (hask.clean (by decide)) (hask.crZero (by decide))
      (fun _ => rfl) fun _ => hask.threshold (by decide) (by decide)
  case readCr next hnext =>
    have hnext := hask.of_readCr hnext
    rw [afterAsk_cr] at hnext
    exact hnext.congr (by simp)
  case writeCr bit value next hnext =>
    have hnext := hask.of_writeCr (tmp' := s.eng.tmp) hnext
    simpa using hnext.congr (t := goto next (writeCr (setBit s.eng.tmp bit value) (afterAsk s)))
      (by simp)
  case softReset hupc =>
    exact .of_disabled (l := .p1) (by decide) (by simp) (by simp) (fun h => by cases h)
      fun h => absurd rfl h
  case threshold hupc =>
    rw [hupc] at hask
    exact .of_disabled (l := .p2) (by decide) (hask.clean (by decide)) (hask.crZero (by decide))
      (fun h => by cases h) fun _ => by simp
  case pollAgain hpoll =>
    have hlabels : ∀ l ∈ pollLabels, Carries l l ∧ l ∉ tmpLabels := by decide
    exact hask.goOn (hlabels _ hpoll) (by simp)
  case leavePrologue hupc hinit hp =>
    rw [hupc] at hask
    have hafter : Carries .p14 (afterPrologue i) ∧ afterPrologue i ∉ tmpLabels := by
      cases i <;> simp only [afterPrologue] <;> decide
    exact hask.goOn hafter (by simp)
  case leaveWritePoll hupc =>
    rw [hupc] at hask
    exact hask.goOn (b := .w3) (by decide) (by simp)
  case leaveReceivePoll next hnext hrxf =>
    have hpairs : ∀ p ∈ [(Label.g2, Label.g3), (.s4, .s5)], Carries p.1 p.2 ∧ p.2 ∉ tmpLabels := by
      decide
    exact hask.goOn (hpairs _ hnext) (by simp)
  case saveFlags hupc =>
    rw [hupc] at hask
    exact hask.goOn (b := .w4) (by decide) (by simp)
  case diagnose next hnext =>
    have hpairs : ∀ p ∈ [(Label.g4, Label.g5), (.s6, .s7)], Carries p.1 p.2 ∧ p.2 ∉ tmpLabels := by
      decide
    exact hask.goOn (hpairs _ hnext) (by simp)
  case enqueue e next hnext =>
    have hpairs : ∀ p ∈ [(Label.g0, Label.g1), (.s0, .s1), (.s1, .s2), (.s2, .s3)],
        p.1 ∈ enabledLabels ∧ (p.2 ∈ enabledLabels ∧ p.2 ∉ cleanLabels ∧ p.2 ∉ tmpLabels) ∧
          ∀ i, ∃ n, queuedAtMost p.1 i = some n ∧ queuedAtMost p.2 i = some (n + 1) := by
      simp [enabledLabels, cleanLabels, tmpLabels, queuedAtMost]
    obtain ⟨hen, hnext, hcount⟩ := hpairs _ hnext
    obtain ⟨k, hk, hk'⟩ := hcount s.eng.i
    refine FactsAt.of_enabled hnext (hask.crEnabled hen) fun n hn => ?_
    have hlen := pushEntry_length_le e (afterAsk s)
    have hqueued := hask.queued k hk
    have hn : queuedAtMost next s.eng.i = some n := by simpa using hn
    cases hk'.symm.trans hn
    exact hlen.trans (Nat.succ_le_succ hqueued)
  case enqueueFirst e next hnext =>
    have hpairs : ∀ p ∈ [(Label.w0, Label.w1), (.g1, .g2), (.s3, .s4)],
        p.1 ∈ enabledLabels ∧ (p.2 ∈ enabledLabels ∧ p.2 ∉ cleanLabels ∧ p.2 ∉ tmpLabels) ∧
          (p.2 ∈ queueLabels → p = (.w0, .w1)) := by decide
    obtain ⟨hen, hlabel, hqueue⟩ := hpairs _ hnext
    refine FactsAt.of_enabled hlabel (hask.crEnabled hen) fun n hn => ?_
    have hwrite : next ∈ queueLabels := by
      by_contra hne
      exact hlabel.2.1 (mem_cleanLabels_of_queuedAtMost hn hne)
    obtain ⟨hupc, rfl⟩ := Prod.mk.inj (hqueue hwrite)
    cases hn
    exact (pushEntry_length_le e (afterAsk s)).trans
      (Nat.succ_le_succ (hask.queued 0 (by rw [hupc]; rfl)))
  case enqueueByte e count hupc hc =>
    rw [hupc] at hask
    have hlen := (pushEntry_length_le e (afterAsk s)).trans
      (Nat.succ_le_succ (hask.queued _ rfl))
    have hcr := hask.crEnabled (by decide)
    have hindex := hinv.loopIndex hm (by rw [hupc]; decide)
    rw [hcmd, hc] at hindex
    unfold countLoop
    dsimp only
    split
    · refine FactsAt.of_enabled (l := .w1) (by decide) hcr fun n hn => ?_
      have hn : (s.eng.i + 1#8).toNat + 1 = n := by simpa [queuedAtMost] using hn
      have hcount := count.isLt
      rw [BitVec.toNat_add, BitVec.toNat_ofNat, Nat.mod_eq_of_lt (by omega)] at hn
      rw [← hn]
      exact hlen
    · exact FactsAt.of_enabled (l := .w2) (by decide) hcr fun n hn => by cases hn
  case dequeue again leave count hlabels hc =>
    have hpairs : ∀ p ∈ [(Label.g3, Label.g2, Label.g4), (.s5, .s4, .s6)], p.1 ∈ enabledLabels ∧
        ∀ l ∈ [p.2.1, p.2.2], l ∈ enabledLabels ∧ l ∉ cleanLabels ∧ l ∉ tmpLabels ∧
          l ∉ queueLabels := by decide
    obtain ⟨hen, hnext⟩ := hpairs _ hlabels
    have hfacts : ∀ l ∈ [again, leave], ∀ tmp i u, u.cr = s.cr → FactsAt l tmp i u := by
      intro l hl tmp i u hcr
      obtain ⟨hmem, hclean, htmp, hqueue⟩ := hnext l hl
      exact FactsAt.of_enabled ⟨hmem, hclean, htmp⟩ (hcr.trans (h.crEnabled hen)) fun n hn =>
        absurd (mem_cleanLabels_of_queuedAtMost hn hqueue) hclean
    unfold countLoop
    dsimp only
    split
    · exact hfacts again (by simp) _ _ _ (by simp)
    · exact hfacts leave (by simp) _ _ _ (by simp)

/-! ### The facts under every turn -/

theorem facts_engineTurn {s t : State} (hinv : Inv s) (h : TransactionFacts s)
    (hm : s.eng.mode = .run) (ht : EngineTurn s t) : TransactionFacts t := by
  have hfacts := (transactionFacts_iff s).mp h hm
  refine (transactionFacts_iff t).mpr fun hgo => ?_
  cases ht with
  | refused => simpa using hfacts.congr (t := markRefused .concurrent s) (by simp)
  | returned v => exact hfacts.congr (by simp)
  | failed => simp [failedAt] at hgo
  | stepped hl hstep =>
    exact factsAt_engineStep ((inv_iff s).mp hinv).2.1 hm rfl hfacts hstep hgo

/-- The first label of a command is one of those without facts. -/
theorem firstLabel_not_mem (i : Instr) : firstLabel i ∉ factLabels := by
  cases i <;> simp only [firstLabel] <;> decide

theorem facts_hostTurn {a : HostAction} {s t : State} (h : TransactionFacts s)
    (ht : HostTurn a s t) : TransactionFacts t := by
  have hfacts := (transactionFacts_iff s).mp h
  refine (transactionFacts_iff t).mpr fun hgo => ?_
  cases ht with
  | pass => exact hfacts hgo
  | refused r => simpa using (hfacts (by simpa using hgo)).congr (t := markRefused r s) (by simp)
  | returned v => exact (hfacts hgo).congr (by simp)
  | acknowledged => simp at hgo
  | reset => simp [Engine.reset] at hgo
  | failed hm => simp [hm] at hgo
  | read r v hm => simp [hm] at hgo
  | write r w v hm => simp [hm] at hgo
  | admitted i hk hwf => exact .of_not_mem _ _ _ (firstLabel_not_mem i)

/-- A step of the bus side needs an entry queued or a line that is not Idle, so none happens where the
controller is as the prologue left it; elsewhere the facts are about CR and what is queued. -/
theorem factsAt_doMove {l : Label} {tmp : Word} {i : Byte} {m : BusMove} {s : State}
    (h : FactsAt l tmp i s) (hm : busMove s = some m) : FactsAt l tmp i (doMove m s) := by
  have hdirty : l ∉ cleanLabels := by
    intro hl
    obtain ⟨htxf, -, hls, -⟩ := h.clean hl
    have hline := (busMove_eq_some hm).2.2.2
    rw [lineMove_of_txf_nil (.inl hls) htxf] at hline
    cases hline
  have hclean : isrClearLabels ⊆ cleanLabels := by decide
  have htail : (doMove m s).txf.length ≤ s.txf.length := by
    rcases doMove_txf m s with heq | heq <;> simp [heq]
  exact {
    clean := fun hl => absurd hl hdirty
    crZero := by rw [doMove_cr]; exact h.crZero
    crHeld := by rw [doMove_cr]; exact h.crHeld
    crEnabled := by rw [doMove_cr]; exact h.crEnabled
    tmpZero := h.tmpZero
    tmpHeld := h.tmpHeld
    tmpEnabled := h.tmpEnabled
    isrClear := fun hl => absurd (hclean hl) hdirty
    threshold := fun hl => absurd hl hdirty
    queued := fun n hn => htail.trans (h.queued n hn) }

theorem facts_turn {a : Agent} {s t : State} (hinv : Inv s) (h : TransactionFacts s)
    (ht : Turn s a t) : TransactionFacts t := by
  cases ht with
  | pass => exact h
  | host hi ht =>
    refine facts_hostTurn ?_ ht
    exact { h with }
  | engine hm ht => exact facts_engineTurn hinv h hm ht
  | static =>
    refine (transactionFacts_iff _).mpr fun hgo => ?_
    have hfacts := (transactionFacts_iff s).mp h (by simpa using hgo)
    simpa using hfacts.congr (t := markRefused .staticModeNotSpecified s) (by simp)
  | move m hm =>
    refine (transactionFacts_iff _).mpr fun hgo => ?_
    rw [doMove_eng] at hgo ⊢
    exact factsAt_doMove ((transactionFacts_iff s).mp h hgo) hm
  | env => exact { h with }

/-- Settles O58: the facts label by label under each agent's turn. -/
theorem stepKeepsTransactionFacts : Obligations.StepKeepsTransactionFacts := by
  intro s t hinv h hstep
  obtain ⟨ts, d, hturn⟩ := turn_of_step hstep
  refine facts_turn ?_ ?_ hturn
  · exact { hinv with }
  · exact { h with }

/-- Settles O56: after reset no engine runs, so there are no facts to keep yet. -/
theorem invariantsHoldAtReset : Obligations.InvariantsHoldAtReset :=
  ⟨inv_reset, (transactionFacts_iff _).mpr fun h => by cases h⟩

/-! ### What a transaction's own steps promise -/

/-- A step records a fault only where it queues an entry or takes a byte. -/
theorem EngineStep.faults_cases {i : Instr} {s t : State} (h : EngineStep i s t) :
    t.faults = s.faults ∨
      (s.eng.upc ∈ [Label.eq0, .w0, .w1, .g0, .g1, .s0, .s1, .s2, .s3] ∧
        ∃ e, t.faults = (pushEntry e (afterAsk s)).faults) ∨
      (s.eng.upc ∈ [Label.dq0, .g3, .s5] ∧ t.faults = (readRxFifo (afterAsk s)).2.faults) := by
  cases h
  case enqueueLast e hupc => exact .inr (.inl ⟨by simp [hupc], e, by simp⟩)
  case enqueue e next hnext => exact .inr (.inl ⟨by simp_all; tauto, e, by simp⟩)
  case enqueueFirst e next hnext => exact .inr (.inl ⟨by simp_all; tauto, e, by simp⟩)
  case enqueueByte e count hupc hc => exact .inr (.inl ⟨by simp [hupc], e, by simp [countLoop]⟩)
  case dequeueLast hupc => exact .inr (.inr ⟨by simp [hupc], by simp⟩)
  case dequeue hlabels hc => exact .inr (.inr ⟨by simp_all; tauto, by simp [countLoop]⟩)
  all_goals exact .inl (by simp)

/-- A byte that waits is taken without a fault (R127). -/
theorem readRxFifo_faults_of_ne_nil {s : State} (h : s.rxf ≠ []) :
    (readRxFifo s).2.faults = s.faults := by
  cases hrxf : s.rxf with
  | nil => exact absurd hrxf h
  | cons b rest => simp [readRxFifo, hrxf]

/-- An entry is queued without a fault where there is room (R126). -/
theorem pushEntry_faults_of_lt {s : State} (e : Entry) (h : s.txf.length < s.params.txDepth) :
    (pushEntry e s).faults = s.faults := by
  rw [pushEntry]
  exact if_neg fun hfull => by omega

theorem mem_withFault {f g : Fault} {fs : List Fault} (h : f ∈ withFault g fs) : f ∈ fs ∨ f = g := by
  rw [withFault] at h
  split at h
  · exact .inl h
  · simpa using h

/-- Only `dequeueWord` has the label DQ0. -/
theorem eq_dequeueWord_of_mem {i : Instr} (h : .dq0 ∈ stepLabels i) : i = .dequeueWord := by
  cases i <;> simp [stepLabels, prologueLabels] at h ⊢

theorem engineStep_keepsUnderflow {i : Instr} {s t : State} (hinv : EngineInv s)
    (hm : s.eng.mode = .run) (hl : s.eng.upc ∈ stepLabels i) (hi : i ≠ .dequeueWord)
    (hstep : EngineStep i s t) (h : Fault.rxUnderflow ∈ t.faults) :
    Fault.rxUnderflow ∈ s.faults := by
  rcases hstep.faults_cases with heq | ⟨-, e, heq⟩ | ⟨hupc, heq⟩ <;> rw [heq] at h
  · exact h
  · rw [pushEntry] at h
    dsimp only at h
    split at h
    · simpa using (mem_withFault h).resolve_right (by simp)
    · simpa using h
  · simp only [List.mem_cons, List.not_mem_nil, or_false] at hupc
    have hwaiting : s.eng.upc ∈ [Label.g3, .s5] := by
      rcases hupc with hupc | hupc | hupc
      · exact absurd (eq_dequeueWord_of_mem (hupc ▸ hl)) hi
      · simp [hupc]
      · simp [hupc]
    rwa [readRxFifo_faults_of_ne_nil (by simpa using hinv.byteWaiting hm hwaiting),
      afterAsk_faults] at h

/-- A write that fits has room for every entry it queues, and so records no fault (R302). -/
theorem engineStep_faults_of_fits {i : Instr} {s t : State} {address : Address} {count : Byte}
    {data : List Byte} (hinv : EngineInv s) (hfacts : TransactionFacts s)
    (hm : s.eng.mode = .run) (hl : s.eng.upc ∈ stepLabels i) (hi : i = .writeReg address count data)
    (hcmd : s.eng.cmd = i) (hfits : count.toNat + 1 ≤ s.params.txDepth) (hstep : EngineStep i s t) :
    t.faults = s.faults := by
  subst hi
  have hqueued := hfacts.queued hm
  rcases hstep.faults_cases with heq | ⟨hupc, e, heq⟩ | ⟨hupc, heq⟩
  · exact heq
  · have hroom : s.txf.length < s.params.txDepth := by
      have hown : s.eng.upc = .w0 ∨ s.eng.upc = .w1 := by
        revert hl hupc
        generalize s.eng.upc = l
        cases l <;> simp [stepLabels, prologueLabels]
      rcases hown with hupc | hupc
      · have := hqueued 0 (by rw [hupc]; rfl)
        omega
      · have hlen := hqueued _ (by rw [hupc]; rfl)
        have hindex := hinv.loopIndex hm (by rw [hupc]; decide)
        rw [hcmd, transferCount] at hindex
        omega
    rw [heq, pushEntry_faults_of_lt e (by simpa using hroom), afterAsk_faults]
  · revert hl hupc
    generalize s.eng.upc = l
    cases l <;> simp [stepLabels, prologueLabels]

/-- The last write of a transaction disables the device, which was enabled until then. -/
theorem writeCr_disables {s : State} (h : s.cr = 0x00000001#32) :
    (writeCr (setBit 0x00000001#32 0#5 false) s).cr = 0x00000000#32 ∧
      (writeCr (setBit 0x00000001#32 0#5 false) s).ls = .idle := by
  have hword : setBit 0x00000001#32 0#5 false = 0x00000000#32 := by decide
  have hab : (crEn s.cr && !crEn (setBit 0x00000001#32 0#5 false)) = true := by
    rw [h]
    decide
  rw [writeCr_abandons _ _ hab]
  exact ⟨(busAbandon_cr _).trans hword, busAbandon_ls _⟩

/-- A step that ends a transaction is the write that disables the device. -/
theorem engineStep_disables {i : Instr} {s t : State} (hfacts : TransactionFacts s)
    (hm : s.eng.mode = .run) (hl : s.eng.upc ∈ stepLabels i)
    (hi : .p0 ∈ stepLabels i ∧ i ≠ .initDevice) (hstep : EngineStep i s t)
    (hend : t.eng.mode = .idle) : t.cr = 0x00000000#32 ∧ t.ls = .idle := by
  have hown : ∀ l ∈ [Label.rs0, .ri0, .ci1, .t1, .eq0, .dq0], l ∉ stepLabels i := by
    obtain ⟨hp, hne⟩ := hi
    cases i
    case initDevice => exact absurd rfl hne
    case writeReg | readReg | readRegSel => simp only [stepLabels]; decide
    all_goals revert hp; simp only [stepLabels]; decide
  have hlast : s.eng.upc ∈ [Label.g6, .s8, .w5] →
      (writeCr (setBit s.eng.tmp 0#5 false) (afterAsk s)).cr = 0x00000000#32 ∧
        (writeCr (setBit s.eng.tmp 0#5 false) (afterAsk s)).ls = .idle := by
    intro hlabel
    have hlabels : ∀ l ∈ [Label.g6, .s8, .w5],
        l ∈ [Label.p11, .p13, .w5, .g6, .s8] ∧ l ∈ enabledLabels := by decide
    obtain ⟨htmp, hen⟩ := hlabels _ hlabel
    rw [hfacts.tmpEnabled hm htmp]
    exact writeCr_disables (by simpa using hfacts.crEnabled hm hen)
  cases hstep
  case readStatus hupc | readFlags hupc | clearIsrLast hupc | toggleLast hupc | enqueueLast hupc |
      dequeueLast hupc =>
    rw [hupc] at hl
    exact absurd hl (hown _ (by decide))
  case initLast hupc hinit => exact absurd hinit hi.2
  case readLast hupc => exact hlast (List.mem_append_left (bs := [Label.w5]) hupc)
  case writeLast hupc => exact hlast (by simp [hupc])
  all_goals simp [countLoop, hm] at hend

/-- Settles O59: underflow, overflow and the end of a transaction, each by its own lemma. -/
theorem transactionsKeepTheirPromises : Obligations.TransactionsKeepTheirPromises := by
  intro s t hinv hfacts hm hstep hdq
  rw [engineStep_run hm] at hstep
  have hengine := ((inv_iff s).mp hinv).2.1
  have hkind := (hinv.running hm).1
  cases EngineTurn.of_exec hm hstep with
  | refused hk => simp [hk] at hkind
  | returned v hk => simp [hk] at hkind
  | failed hl =>
    refine ⟨fun h => ?_, fun _ _ _ e _ _ h => ?_, fun _ hend => by simp [failedAt] at hend⟩
    all_goals exact (mem_withFault h).resolve_right (by simp)
  | stepped hl hstep =>
    refine ⟨engineStep_keepsUnderflow hengine hm hl hdq hstep, ?_, fun hi hend => ?_⟩
    · intro address count data e hcmd hfits h
      rwa [engineStep_faults_of_fits hengine hfacts hm hl hcmd rfl hfits hstep] at h
    · refine engineStep_disables hfacts hm hl ?_ hstep hend
      rcases hi with ⟨_, _, _, hcmd⟩ | ⟨_, _, hcmd⟩ | ⟨_, _, _, hcmd⟩ <;> rw [hcmd] <;>
        exact ⟨.head _, by simp⟩

end Sys2Proof.Machine
end

section
/-! PROOFS. The bus side's other steps (45_bus_side.md R211, R216 to R218, R227, R232): framing faults,
the answer to a sent byte, what it leaves alone, and the polls that it leaves hanging. -/

namespace Sys2Proof.Machine

/-! ### Framing faults and the quiescent bus side -/

theorem lineMove_idle_framing {s : State} {e : Entry} {rest : List Entry} (hls : s.ls = .idle)
    (htxf : s.txf = e :: rest) (hstart : e.getLsbD 8 = false) : lineMove s = some (.framing e) := by
  rw [lineMove, hls, htxf]
  simp only [entryStart, hstart]
  rfl

/-- An entry with a start flag, without a stop flag or with count 0 is no count entry (R216). -/
theorem countEntry_eq_false {e : Entry}
    (h : e.getLsbD 8 = true ∨ e.getLsbD 9 = false ∨ e.extractLsb' 0 8 = 0#8) :
    countEntry e = false := by
  rw [countEntry, entryStart, entryStop, entryData]
  rcases h with h | h | h
  · rw [h]; rfl
  · rw [h, Bool.and_false, Bool.false_and]
  · rw [h, bne_self_eq_false, Bool.and_false]

theorem quiescent_of_blocked {s : State} (h : s.framingBlocked = true) : Quiescent s := by
  simp [Quiescent, busMove, h]

/-- Settles O46: the head entry enables the framing step, which blocks the bus side. -/
theorem framingFaultStopsTheBus : Obligations.FramingFaultStopsTheBus := by
  intro s e rest hon htxf hentry
  have hmove : lineMove s = some (.framing e) := by
    rcases hentry with ⟨hls, hstart⟩ | ⟨hls, hcount⟩
    · exact lineMove_idle_framing hls htxf hstart
    · rw [lineMove_rxCountWait hls htxf, countEntry_eq_false hcount, if_neg Bool.false_ne_true]
  refine ⟨?_, fun t => quiescent_of_blocked⟩
  rw [busStep_of_lineMove hon hmove, doMove, raiseFraming, recordFault_eq]

/-- Outside the static mode a quiescent bus side passes its turn. -/
theorem busStep_of_quiescent {s : State} (hset : Refusal.staticModeNotSpecified ∉ s.refused)
    (hmode : staticMode s = false) (hquiet : Quiescent s) : busStep s = .next s := by
  rw [busStep, if_neg hset, hmode, show busMove s = none from hquiet]
  rfl

/-- Settles O50: a disabled bus side is quiescent; the static mode is refused once and then stops. -/
theorem disabledAndStaticBusDoNothing : Obligations.DisabledAndStaticBusDoNothing := by
  intro s hset
  refine ⟨fun hen => ?_, fun hmode hquiet => ?_, fun hen hmsms => ⟨?_, ?_⟩⟩
  · have hdis : crEn s.cr = false := hen
    exact busStep_of_quiescent hset (by simp [staticMode, hdis])
      (by simp [Quiescent, busMove, hdis])
  · exact busStep_of_quiescent hset (by simpa [staticMode, crEn, crMsms] using hmode) hquiet
  · have hstatic : staticMode s = true := by simp [staticMode, crEn, crMsms, hen, hmsms]
    rw [busStep, if_neg hset, if_pos hstatic, markRefused, if_neg hset]
  · rw [busStep, if_pos (by simp)]

/-! ### The answer to a sent byte -/

/-- A read address with the stop flag, as the entry it was. -/
theorem entryOfAddr_stop (b : Byte) : entryOfAddr b true = (3#2 ++ b : BitVec (2 + 8)) := by
  refine BitVec.eq_of_getLsbD_eq fun k hk => ?_
  simp only [entryOfAddr, BitVec.getLsbD_append]
  by_cases hlow : k < 8
  · simp [hlow, show k < 9 by omega]
  · obtain rfl | rfl : k = 8 ∨ k = 9 := by omega
    · rfl
    · rfl

/-- `AddrDone` (R217) on a bus side that no framing fault blocks. -/
theorem addrDone_eq {s u : State} {b : Byte} {stop ack : Bool} (hask : askAck (.addr b) s = (ack, u))
    (hblocked : s.framingBlocked = false) : addrDone b stop s = { u with
      trace := s.trace ++ [.addr b ack], env := observe (.addr b ack) u.env
      isr := if ack then s.isr else s.isr ||| 0x02#8
      ls := if ack = false then .stopping true
        else if b.getLsbD 0 = true then (if stop then s.ls else .rxCountWait)
        else if stop then .stopping false else .txWait
      faults := if ack = true ∧ b.getLsbD 0 = true ∧ stop = true then
        withFault (.framingFault (3#2 ++ b : BitVec (2 + 8))) s.faults else s.faults
      framingBlocked := decide (ack = true ∧ b.getLsbD 0 = true ∧ stop = true) } := by
  obtain rfl : (askAck (.addr b) s).2 = u := by rw [hask]
  obtain rfl : (askAck (.addr b) s).1 = ack := by rw [hask]
  simp only [addrDone]
  generalize (askAck (.addr b) s).1 = ack
  have hentry := entryOfAddr_stop b
  cases ack
  case false => simp [notAcknowledged, raiseFlag, emit, flagError, hblocked]
  case true =>
    simp only [addrAcked]
    generalize b.getLsbD 0 = read
    cases read <;> cases stop <;> simp [raiseFraming, recordFault_eq, emit, hentry, hblocked]

/-- `DataDone` (R218). -/
theorem dataDone_eq {s u : State} {b : Byte} {stop ack : Bool}
    (hask : askAck (.txb b) s = (ack, u)) : dataDone b stop s = { u with
      trace := s.trace ++ [.txb b ack], env := observe (.txb b ack) u.env
      isr := if ack then s.isr else s.isr ||| 0x02#8
      ls := if ack = false then .stopping true
        else if stop then .stopping false else .txWait } := by
  obtain rfl : (askAck (.txb b) s).2 = u := by rw [hask]
  obtain rfl : (askAck (.txb b) s).1 = ack := by rw [hask]
  simp only [dataDone]
  generalize (askAck (.txb b) s).1 = ack
  cases ack <;> simp [notAcknowledged, raiseFlag, emit, flagError]

theorem orLost_of_answered {s v : State} (done : State → State) (h : askLost s = (false, v)) :
    orLost done s = done v := by
  simp [orLost, h]

theorem busStep_sendAddr {s v : State} {b : Byte} {stop : Bool} (hon : BusOn s)
    (hls : s.ls = .sendAddr b stop) (h : askLost s = (false, v)) :
    busStep s = .next (addrDone b stop v) := by
  have hmove : lineMove s = some (.addrDone b stop) := by simp [lineMove, hls]
  rw [busStep_of_lineMove hon hmove, doMove, orLost_of_answered _ h]

theorem busStep_sendData {s v : State} {b : Byte} {stop : Bool} (hon : BusOn s)
    (hls : s.ls = .sendData b stop) (h : askLost s = (false, v)) :
    busStep s = .next (dataDone b stop v) := by
  have hmove : lineMove s = some (.dataDone b stop) := by simp [lineMove, hls]
  rw [busStep_of_lineMove hon hmove, doMove, orLost_of_answered _ h]

/-- Settles O47: the two sending line states, where arbitration is not lost. -/
theorem sentBytesAreAnswered : Obligations.SentBytesAreAnswered := by
  intro s v u b stop ack hon hlost
  obtain rfl : (askLost s).2 = v := by rw [hlost]
  have hblocked : s.framingBlocked = false := hon.2.2.1
  refine ⟨fun hls hask => ?_, fun hls hask => ?_⟩
  · rw [busStep_sendAddr hon hls hlost, addrDone_eq hask (by simpa using hblocked)]
    simp
  · rw [busStep_sendData hon hls hlost, dataDone_eq hask]
    simp

/-! ### What the bus side leaves alone -/

/-- `t` is the interrupt flags `s` with some flags of the bus side's set: not the two slave flags. -/
def Flagged (s t : Byte) : Prop := ∃ f, t = s ||| f ∧ f &&& 0x60#8 = 0#8

theorem Flagged.refl (s : Byte) : Flagged s s := ⟨0#8, by simp, by simp⟩

theorem Flagged.of_or (s f : Byte) (h : f &&& 0x60#8 = 0#8) : Flagged s (s ||| f) := ⟨f, rfl, h⟩

theorem Flagged.trans {s t u : Byte} (h : Flagged s t) (k : Flagged t u) : Flagged s u := by
  obtain ⟨f, rfl, hf⟩ := h
  obtain ⟨g, rfl, hg⟩ := k
  refine ⟨f ||| g, BitVec.or_assoc _ _ _, ?_⟩
  rw [BitVec.and_or_distrib_right, hf, hg, BitVec.or_zero]

theorem flagged_raiseFlag {cond : Bool} {mask : Byte} (s : State) (h : mask &&& 0x60#8 = 0#8) :
    Flagged s.isr (raiseFlag cond mask s).isr := by
  cases cond
  · exact .refl _
  · exact .of_or _ _ h

theorem Flagged.bits {s t : Byte} (h : Flagged s t) : t ||| s = t ∧
    t.getLsbD 5 = s.getLsbD 5 ∧ t.getLsbD 6 = s.getLsbD 6 := by
  obtain ⟨f, rfl, hf⟩ := h
  have hbit : ∀ k, (f.getLsbD k && (0x60#8).getLsbD k) = false := fun k => by
    rw [← BitVec.getLsbD_and, hf, BitVec.getLsbD_zero]
  have h5 : f.getLsbD 5 = false := by simpa using hbit 5
  have h6 : f.getLsbD 6 = false := by simpa using hbit 6
  refine ⟨by rw [BitVec.or_comm, ← BitVec.or_assoc, BitVec.or_self], ?_, ?_⟩
  · rw [BitVec.getLsbD_or, h5, Bool.or_false]
  · rw [BitVec.getLsbD_or, h6, Bool.or_false]

theorem flagged_popTx (s : State) : Flagged s.isr (popTx s).isr :=
  (flagged_raiseFlag { s with txf := s.txf.tail } (by decide)).trans
    (flagged_raiseFlag _ (by decide))

theorem flagged_doMove (m : BusMove) (s : State) : Flagged s.isr (doMove m s).isr := by
  have hlost : ∀ done : State → State, (∀ u, Flagged u.isr (done u).isr) →
      Flagged s.isr (orLost done s).isr := by
    intro done hdone
    rw [orLost]
    dsimp only
    split
    · rw [loseArbitration_isr]
      refine (show Flagged s.isr (askLost s).2.isr by simpa using .refl _).trans (.of_or _ _ ?_)
      split <;> decide
    · simpa using hdone (askLost s).2
  cases m with
  | popStart e | popRepStart e | popData e | popCount e =>
    simpa [doMove] using flagged_popTx s
  | framing e => simpa [doMove] using Flagged.refl _
  | addrDone b stop =>
    refine hlost _ fun u => ?_
    simp only [addrDone]
    split
    · simpa using Flagged.refl _
    · simpa [notAcknowledged] using
        flagged_raiseFlag (cond := true) (mask := flagError) u (by decide)
  | dataDone b stop =>
    refine hlost _ fun u => ?_
    simp only [dataDone]
    split
    · simpa using Flagged.refl _
    · simpa [notAcknowledged] using
        flagged_raiseFlag (cond := true) (mask := flagError) u (by decide)
  | recv n =>
    simpa [doMove, recv] using flagged_raiseFlag (mask := flagRxFull)
      (cond := decide (s.rxPirq.toNat ≤ s.rxf.length)) (askByte s).2 (by decide)
  | stop halt =>
    simpa [doMove, stopDone] using
      flagged_raiseFlag (cond := true) (mask := flagNotBusy) s (by decide)

/-- Settles O51: the fields one by one, the interrupt flags by the flags a step can set. -/
theorem busLeavesRegistersAlone : Obligations.BusLeavesRegistersAlone := by
  intro s t h
  obtain rfl | ⟨-, rfl⟩ | ⟨m, -, rfl⟩ := busStep_cases s t h
  · simp
  · simp
  · exact ⟨doMove_cr m s, doMove_rxPirq m s, doMove_gpo m s, doMove_eng m s, doMove_res m s,
      doMove_ret m s, doMove_inputs m s, doMove_turns m s, doMove_params m s,
      (flagged_doMove m s).bits⟩

/-! ### Polls that are not left (44_transaction_engine.md R194, 70_reset_and_hazards.md R299, R301) -/

/-- The state in which the next agent moves: its turn and the schedule's draw are used up. -/
theorem nextAgent_state (s : State) :
    ∃ ts d, (nextAgent s).2 = { s with turns := ts, draws := d } := by
  unfold nextAgent
  split
  · exact ⟨_, _, rfl⟩
  · split <;> exact ⟨_, _, rfl⟩

/-- A read that has received nothing polls again (R188). -/
theorem exec_receivePoll_waits {s : State} {i : Instr} {label : Label} (hl : label ∈ [Label.g2, .s4])
    (hmem : label ∈ stepLabels i) (h : AtStep i label s) (hrxf : s.rxf = []) :
    exec i s = .next { afterAsk s with eng := { s.eng with st := (srWord s).extractLsb' 0 8 } } := by
  have hread : (∃ address count, i = .readReg address count ∧ label = .g2) ∨
      ∃ address regindex count, i = .readRegSel address regindex count ∧ label = .s4 := by
    revert hl hmem
    cases i <;> cases label <;> simp [stepLabels, prologueLabels]
  have hpoll : exec i s = .next { afterAsk s with eng := { s.eng with
      st := (srWord s).extractLsb' 0 8, upc := if s.rxf = [] then label else s.eng.upc } } := by
    rcases hread with ⟨address, count, rfl, rfl⟩ | ⟨address, regindex, count, rfl, rfl⟩
    · rw [(receiveLoopSteps s _ .g2 .g3 .g4 (.inl ⟨_, _, rfl, rfl⟩)).1 h, if_pos hrxf, if_pos hrxf]
    · rw [(receiveLoopSteps s _ .s4 .s5 .s6 (.inr ⟨_, _, _, rfl, rfl⟩)).1 h, if_pos hrxf, if_pos hrxf]
  rw [hpoll, if_pos hrxf, ← h.2.2.1]

/-- A prologue on a bus held by others polls again (R181). -/
theorem exec_prologuePoll_waits {s : State} {i : Instr} (hmem : .p14 ∈ stepLabels i)
    (h : AtStep i .p14 s) (hbusy : s.env.extBusy = true) :
    exec i s = .next { afterAsk s with eng := { s.eng with st := (srWord s).extractLsb' 0 8 } } := by
  have hpro : .p0 ∈ stepLabels i := by
    revert hmem
    cases i <;> simp [stepLabels, prologueLabels]
  obtain ⟨-, -, -, -, -, -, -, hstays⟩ := prologueStepTable.2 s i hpro
  exact hstays h fun ⟨_, _, _, hfree⟩ => by simp [hbusy] at hfree

/-- A bus side without an enabled step passes its turn, or is refused in the static mode. -/
theorem busStep_quiescent_cases {s t : State} (hquiet : Quiescent s) (h : busStep s = .next t) :
    t = s ∨ t = markRefused .staticModeNotSpecified s := by
  obtain rfl | ⟨-, rfl⟩ | ⟨m, hm, -⟩ := busStep_cases s t h
  · exact .inl rfl
  · exact .inr rfl
  · rw [show busMove s = none from hquiet] at hm
    cases hm

/-- A hung read under one turn (R299). -/
theorem act_hungRead {a : Agent} {s t : State} {label : Label} (hl : label ∈ [Label.g2, .s4])
    (hmem : label ∈ stepLabels s.eng.cmd) (hat : AtStep s.eng.cmd label s)
    (hfail : s.params.accessCanFail = false) (hls : s.ls = .halted) (hrxf : s.rxf = [])
    (ha : a ≠ .host) (h : act a s = .next t) :
    t.eng.mode = .run ∧ t.eng.upc = label ∧ t.eng.cmd = s.eng.cmd ∧ t.ls = .halted ∧ t.rxf = [] ∧
      t.res = s.res ∧ t.cr = s.cr ∧ t.trace = s.trace := by
  have ⟨hm, _, hupc, _⟩ := hat
  cases a with
  | host => exact absurd rfl ha
  | engine =>
    rw [act, engineStep_run hm, exec_receivePoll_waits hl hmem hat hrxf,
      afterAsk_of_cannot hfail] at h
    cases h
    exact ⟨hm, hupc, rfl, hls, hrxf, rfl, rfl, rfl⟩
  | bus =>
    have hquiet := quiescent_of_lineMove_none (lineMove_halted hls)
    rcases busStep_quiescent_cases hquiet h with rfl | rfl
    · exact ⟨hm, hupc, rfl, hls, hrxf, rfl, rfl, rfl⟩
    · simp [hm, hupc, hls, hrxf]
  | env =>
    rw [act, envStep] at h
    split at h <;> cases h <;> exact ⟨hm, hupc, rfl, hls, hrxf, rfl, rfl, rfl⟩

/-- A prologue on a bus held by others under one turn (R301). -/
theorem act_hungPrologue {a : Agent} {s t : State} (hmem : .p14 ∈ stepLabels s.eng.cmd)
    (hat : AtStep s.eng.cmd .p14 s) (hfail : s.params.accessCanFail = false) (hls : s.ls = .idle)
    (htxf : s.txf = []) (hbusy : s.env.extBusy = true) (ha : a = .engine ∨ a = .bus)
    (h : act a s = .next t) :
    t.eng.mode = .run ∧ t.eng.upc = .p14 ∧ t.eng.cmd = s.eng.cmd ∧ t.ls = .idle ∧ t.txf = [] ∧
      t.env.extBusy = true ∧ t.cr = s.cr ∧ t.trace = s.trace := by
  have ⟨hm, _, hupc, _⟩ := hat
  rcases ha with rfl | rfl
  · rw [act, engineStep_run hm, exec_prologuePoll_waits hmem hat hbusy,
      afterAsk_of_cannot hfail] at h
    cases h
    exact ⟨hm, hupc, rfl, hls, htxf, hbusy, rfl, rfl⟩
  · have hquiet := quiescent_of_lineMove_none (lineMove_of_txf_nil (.inl hls) htxf)
    rcases busStep_quiescent_cases hquiet h with rfl | rfl
    · exact ⟨hm, hupc, rfl, hls, htxf, hbusy, rfl, rfl⟩
    · simp [hm, hupc, hls, htxf, hbusy]

/-- Settles O44: the poll's own step, a quiescent bus side, and the environment's toggle. -/
theorem hungPollsAreNotLeft : Obligations.HungPollsAreNotLeft := by
  intro s t hm hfail hstep
  obtain ⟨-, hact⟩ := (step_next_iff s t).mp hstep
  obtain ⟨ts, d, hu⟩ := nextAgent_state s
  rw [hu] at hact
  have hok : (askFail { s with turns := ts, draws := d }).1 = false := by simp [askFail, hfail]
  refine ⟨fun label hl hupc hmem hls hrxf hhost => ?_, fun hupc hmem hls htxf hbusy hagent => ?_⟩
  · exact act_hungRead (s := { s with turns := ts, draws := d }) hl hmem ⟨hm, rfl, hupc, hok⟩ hfail
      hls hrxf hhost hact
  · exact act_hungPrologue (s := { s with turns := ts, draws := d }) hmem ⟨hm, rfl, hupc, hok⟩ hfail
      hls htxf hbusy hagent hact

end Sys2Proof.Machine
end

section
/-! PROOFS. The reference slave (45_bus_side.md R230) and the bring-up caller (46_bringup_caller.md). -/

namespace Sys2Proof.Machine

/-! ### The reference slave -/

theorem wireAddress_address (address : Address) (read : Bool) :
    (wireAddress address read).extractLsb' 1 7 = address := by
  refine BitVec.eq_of_getLsbD_eq fun k hk => ?_
  rw [wireAddress, BitVec.getLsbD_extractLsb', BitVec.getLsbD_append]
  simp [hk]

theorem wireAddress_read (address : Address) (read : Bool) :
    (wireAddress address read).getLsbD 0 = read := by
  rw [wireAddress, BitVec.getLsbD_append]
  simp

/-- A device that hears its own address is selected; for writing it then wants an index (R230). -/
theorem simObserve_addr_own {d : SimDev} {address : Address} (read ack : Bool)
    (hd : d.address = address) : simObserve (.addr (wireAddress address read) ack) d =
      { d with selected := some read, wantPtr := !read } := by
  rw [simObserve, simOnAddr, wireAddress_address, if_pos hd, wireAddress_read]

/-- The first byte a pointer slave is sent is the index. -/
theorem simObserve_select {d : SimDev} {address : Address} (index : Byte)
    (hd : d.address = address) (hk : d.kind = .pointer) :
    simObserve (.txb index true) (simObserve (.addr (wireAddress address false) true) d) =
      { d with selected := some false, wantPtr := false, ptr := index } := by
  rw [simObserve_addr_own false true hd, simObserve, simOnTxb, if_pos rfl]
  simp [hk]

/-- A data byte is stored at the pointer, which goes on. -/
def storeByte (b : Byte) (d : SimDev) : SimDev :=
  { d with regs := memWrite d.regs d.ptr.toNat b, ptr := d.ptr + 1#8 }

/-- Selected for writing, the index taken. -/
abbrev TakesData (d : SimDev) : Prop :=
  d.kind = .pointer ∧ d.selected = some false ∧ d.wantPtr = false

theorem simObserve_txb_data {d : SimDev} (b : Byte) (ack : Bool) (h : TakesData d) :
    simObserve (.txb b ack) d = storeByte b d := by
  obtain ⟨hk, hsel, hwant⟩ := h
  rw [simObserve, simOnTxb, if_pos hsel]
  simp [simAdvance, storeByte, hk, hwant]

theorem takesData_storeByte {d : SimDev} (b : Byte) (h : TakesData d) : TakesData (storeByte b d) := h

/-- The device after it has been sent data bytes. -/
def sentBytes (bytes : List Byte) (d : SimDev) : SimDev :=
  (bytes.map fun b => BusEvent.txb b true).foldl (fun d ev => simObserve ev d) d

theorem sentBytes_cons {d : SimDev} (b : Byte) (rest : List Byte) (h : TakesData d) :
    sentBytes (b :: rest) d = sentBytes rest (storeByte b d) := by
  rw [sentBytes, List.map_cons, List.foldl_cons, simObserve_txb_data b true h]
  rfl

/-- The bytes change the registers and the pointer alone. -/
theorem sentBytes_keeps (bytes : List Byte) {d : SimDev} (h : TakesData d) :
    ∃ regs ptr, sentBytes bytes d = { d with regs := regs, ptr := ptr } := by
  induction bytes generalizing d with
  | nil => exact ⟨d.regs, d.ptr, rfl⟩
  | cons b rest ih =>
    rw [sentBytes_cons b rest h]
    exact ih (takesData_storeByte b h)

theorem storeByte_ptr_add (b : Byte) (d : SimDev) (n : Nat) :
    (storeByte b d).ptr + BitVec.ofNat 8 n = d.ptr + BitVec.ofNat 8 (n + 1) := by
  rw [storeByte, Nat.add_comm n 1, BitVec.ofNat_add, BitVec.add_assoc]

theorem storeByte_wf (b : Byte) {d : SimDev} (h : Memory.wf d.regs) :
    Memory.wf (storeByte b d).regs :=
  memWrite_wf _ h _ _

/-- A register that the pointer does not pass keeps its byte. -/
theorem memRead_sentBytes_frame (bytes : List Byte) {d : SimDev} {k : Nat} (h : TakesData d)
    (hwf : Memory.wf d.regs)
    (hout : ∀ n, n < bytes.length → k ≠ (d.ptr + BitVec.ofNat 8 n).toNat) :
    memRead (sentBytes bytes d).regs k = memRead d.regs k := by
  induction bytes generalizing d with
  | nil => rfl
  | cons b rest ih =>
    have hfirst : k ≠ d.ptr.toNat := by simpa using hout 0 (Nat.succ_pos _)
    rw [sentBytes_cons b rest h, ih (takesData_storeByte b h) (storeByte_wf b hwf), storeByte,
      memRead_memWrite _ hwf, if_neg hfirst]
    intro n hn
    rw [storeByte_ptr_add]
    exact hout (n + 1) (Nat.succ_lt_succ hn)

/-- Up to 256 bytes are stored one after the other from the pointer on. -/
theorem memRead_sentBytes (bytes : List Byte) {d : SimDev} {n : Nat} (h : TakesData d)
    (hwf : Memory.wf d.regs) (hlen : bytes.length ≤ 256) (hn : n < bytes.length) :
    bytes[n]? = some (memRead (sentBytes bytes d).regs (d.ptr + BitVec.ofNat 8 n).toNat) := by
  induction bytes generalizing d n with
  | nil => cases hn
  | cons b rest ih =>
    rw [List.length_cons] at hlen hn
    rw [sentBytes_cons b rest h]
    cases n with
    | zero =>
      rw [memRead_sentBytes_frame rest (takesData_storeByte b h) (storeByte_wf b hwf), storeByte,
        memRead_memWrite _ hwf]
      · simp
      · intro m hm
        rw [storeByte_ptr_add]
        bv_omega
    | succ m =>
      rw [List.getElem?_cons_succ, ← storeByte_ptr_add b d m]
      exact ih (takesData_storeByte b h) (storeByte_wf b hwf) (by omega) (by omega)

/-- Selected for reading, a pointer slave without volatile registers. -/
abbrev GivesData (d : SimDev) : Prop :=
  d.kind = .pointer ∧ d.volatile = [] ∧ d.selected = some true

theorem simObserve_rxb {d : SimDev} (b : Byte) (ack : Bool) (h : GivesData d) :
    simObserve (.rxb b ack) d = { d with ptr := d.ptr + 1#8 } := by
  obtain ⟨hk, hvol, hsel⟩ := h
  rw [simObserve, simOnRxb, if_pos hsel, simAdvance, simUseVolatile]
  simp [hk, hvol]

/-- The pointer after `n` bytes read. -/
theorem iterate_readBytes (n : Nat) {d : SimDev} (h : GivesData d) :
    (fun d => simObserve (.rxb (simRead d) true) d)^[n] d =
      { d with ptr := d.ptr + BitVec.ofNat 8 n } := by
  induction n with
  | zero => simp
  | succ n ih =>
    rw [Function.iterate_succ_apply', ih, simObserve_rxb _ _ (by exact h), BitVec.ofNat_add,
      ← BitVec.add_assoc]

theorem simRead_pointer {d : SimDev} (hk : d.kind = .pointer) (hvol : d.volatile = []) :
    simRead d = memRead d.regs d.ptr.toNat := by
  simp [simRead, simIndex, volatileValues, hk, hvol]

/-- The `n`-th byte read after a select of an index (R230). -/
theorem simRead_after_select {d : SimDev} {address : Address} (index : Byte) (n : Nat)
    (hd : d.address = address) (hk : d.kind = .pointer) (hvol : d.volatile = []) :
    simRead ((fun d => simObserve (.rxb (simRead d) true) d)^[n]
      (simObserve (.addr (wireAddress address true) true) (simObserve .rstart
        (simObserve (.txb index true) (simObserve (.addr (wireAddress address false) true) d))))) =
      memRead d.regs (index + BitVec.ofNat 8 n).toNat := by
  rw [simObserve_select index hd hk, show ∀ d, simObserve .rstart d = d from fun _ => rfl,
    simObserve_addr_own true true (by exact hd), iterate_readBytes n (by exact ⟨hk, hvol, rfl⟩),
    simRead_pointer (by exact hk) (by exact hvol)]

/-- Settles O53: the bytes lie one after the other from the index on, and the reads follow them. -/
theorem referenceSlaveReadsBack : Obligations.ReferenceSlaveReadsBack := by
  intro d index bytes n hk hvol hwf hlen hn
  simp only [List.foldl_cons, List.foldl_nil]
  rw [simObserve_select index rfl hk]
  have htakes : TakesData { d with selected := some false, wantPtr := false, ptr := index } :=
    ⟨hk, rfl, rfl⟩
  obtain ⟨regs, ptr, hwritten⟩ := sentBytes_keeps bytes htakes
  have hread := simRead_after_select (address := d.address) index n
    (d := sentBytes bytes { d with selected := some false, wantPtr := false, ptr := index })
    (by rw [hwritten]) (by rw [hwritten]; exact hk) (by rw [hwritten]; exact hvol)
  exact (memRead_sentBytes bytes htakes hwf hlen hn).trans (congrArg some hread.symm)

/-! ### The bring-up caller -/

/-- The search starts at the index it is given. -/
theorem firstMismatch_ge {read : Nat → Byte} {bytes : List Byte} {k i : Nat}
    (h : firstMismatch read k bytes = some i) : k ≤ i := by
  induction bytes generalizing k with
  | nil => cases h
  | cons b rest ih =>
    rw [firstMismatch] at h
    split at h
    · exact (Nat.le_succ k).trans (ih h)
    · exact (Option.some.inj h).le

/-- It finds the first index at which the byte read is another one (R243). -/
theorem firstMismatch_eq_some_iff {read : Nat → Byte} {bytes : List Byte} {k j : Nat} :
    firstMismatch read k bytes = some (k + j) ↔
      (∃ b, bytes[j]? = some b ∧ read (k + j) ≠ b) ∧
        ∀ l, l < j → bytes[l]? = some (read (k + l)) := by
  induction bytes generalizing k j with
  | nil => simp [firstMismatch]
  | cons b rest ih =>
    rw [firstMismatch]
    cases j with
    | zero =>
      split
      next heq =>
        refine iff_of_false (fun h => ?_) (by simp [heq])
        have := firstMismatch_ge h
        omega
      next hne => simpa using hne
    | succ j =>
      split
      next heq =>
        rw [← Nat.add_assoc, Nat.add_right_comm, ih]
        refine and_congr (by simp) ⟨fun h l hl => ?_, fun h l hl => ?_⟩
        · cases l with
          | zero => simp [heq]
          | succ l =>
            rw [List.getElem?_cons_succ, h l (by omega), Nat.add_right_comm, Nat.add_assoc]
        · have := h (l + 1) (by omega)
          rwa [List.getElem?_cons_succ, ← Nat.add_assoc, Nat.add_right_comm] at this
      next hne =>
        refine iff_of_false (by simp) fun h => hne ?_
        simpa using (h.2 0 (Nat.succ_pos j)).symm

/-- It finds none where every byte read is the one written. -/
theorem firstMismatch_eq_none {read : Nat → Byte} {bytes : List Byte} {k : Nat}
    (h : ∀ j, j < bytes.length → bytes[j]? = some (read (k + j))) :
    firstMismatch read k bytes = none := by
  induction bytes generalizing k with
  | nil => rfl
  | cons b rest ih =>
    have hfirst : read k = b := by simpa using (h 0 (Nat.succ_pos _)).symm
    rw [firstMismatch, if_pos hfirst]
    refine ih fun j hj => ?_
    have := h (j + 1) (Nat.succ_lt_succ hj)
    rwa [List.getElem?_cons_succ, ← Nat.add_assoc, Nat.add_right_comm] at this

theorem nextConfig_ne_aborted (left : List (Byte × List Byte)) (why : BringUpFailure) :
    nextConfig left ≠ .aborted why := by
  cases left <;> simp [nextConfig]

/-- Whether a phase issues an operation does not depend on GPO. -/
theorem bringUpInstr_isSome {p : BringUpParams} {gpo : Word} {phase : BringUpPhase}
    (h : bringUpInstr p gpo phase ≠ none) : (bringUpInstr p 0#32 phase).isSome = true := by
  cases phase with
  | writeConfig left => cases left with
    | nil => exact absurd rfl h
    | cons entry rest => rfl
  | ready | aborted => exact absurd rfl h
  | assertSwitch | releaseSwitch | assertClkdev | releaseClkdev | selectPort | verifyPort | readBack |
      pollReady => rfl

/-- Settles O60: the phases one by one; the read-back by the search for the first mismatch. -/
theorem bringUpReportsTheFirstMismatch : Obligations.BringUpReportsTheFirstMismatch := by
  intro p fail read reg bytes left
  refine ⟨fun gpo phase h => ?_, rfl, rfl, rfl, fun accessFailed why => ?_, fun i => ?_, fun h => ?_,
    ?_⟩
  · rw [bringUpNext, bringUpInstr_isSome h]
    rfl
  · cases accessFailed <;> rfl
  · have hjudge : bringUpNext p false fail read (.readBack reg bytes left) =
        match firstMismatch read 0 bytes with
        | some i => .aborted (.registerFailed i)
        | none => nextConfig left := rfl
    have hsearch := firstMismatch_eq_some_iff (read := read) (bytes := bytes) (k := 0) (j := i)
    simp only [Nat.zero_add] at hsearch
    rw [← hsearch, hjudge]
    cases firstMismatch read 0 bytes with
    | none => simp [nextConfig_ne_aborted]
    | some k => simp
  · have hnone : firstMismatch read 0 bytes = none :=
      firstMismatch_eq_none (by simpa using h)
    rw [bringUpNext, Bool.false_and, if_neg Bool.false_ne_true, bringUpJudge, hnone]
  · rw [bringUpNext, Bool.false_and, if_neg Bool.false_ne_true, bringUpJudge]
    split <;> simp_all

end Sys2Proof.Machine
end

section
/-! PROOFS. Runs of several turns, seen through the fields a transaction depends on: what one turn makes
of a view, the chains of turns, and the prologue (44_transaction_engine.md section 2). -/

namespace Sys2Proof.Machine

/-! ### Views -/

/-- What a run of a transaction looks at: the state without the turns, the host's queue and return, the
schedule, the slaves, and `eng.st`. -/
structure View where
  params : Params
  cr : Word
  isr : Byte
  rxPirq : Word
  gpo : Word
  txf : List Entry
  rxf : List Byte
  ls : LineState
  blocked : Bool
  extBusy : Bool
  acks : List Bool
  rbytes : List Byte
  trace : List BusEvent
  faults : List Fault
  refused : List Refusal
  res : Results
  draws : Nat
  mode : EngMode
  upc : Label
  cmd : Instr
  tmp : Word
  flags : Byte
  i : Byte

/-- What a run of a transaction sees of a state. -/
def view (s : State) : View where
  params := s.params
  cr := s.cr
  isr := s.isr
  rxPirq := s.rxPirq
  gpo := s.gpo
  txf := s.txf
  rxf := s.rxf
  ls := s.ls
  blocked := s.framingBlocked
  extBusy := s.env.extBusy
  acks := s.env.acks
  rbytes := s.env.rbytes
  trace := s.trace
  faults := s.faults
  refused := s.refused
  res := s.res
  draws := s.draws
  mode := s.eng.mode
  upc := s.eng.upc
  cmd := s.eng.cmd
  tmp := s.eng.tmp
  flags := s.eng.isr
  i := s.eng.i

/-! ### Turns -/

/-- A turn of the agent `a` in any state seen as `v` leads to one seen as `w`. -/
structure TurnTo (a : Agent) (v w : View) : Prop where
  refused : w.refused = v.refused
  running : a = .engine → v.mode = .run ∧ w.cmd = v.cmd
  goes : ∀ s, view s = v → ∃ t, act a s = .next t ∧ view t = w

/-- A chain of turns of the agents in the list. -/
inductive Moves : List Agent → View → View → Prop
  | nil (v : View) : Moves [] v v
  | cons {a : Agent} {as : List Agent} {u v w : View} (h : TurnTo a u v) (k : Moves as v w) :
      Moves (a :: as) u w

theorem Moves.append {as bs : List Agent} {u v w : View} (h : Moves as u v) (k : Moves bs v w) :
    Moves (as ++ bs) u w := by
  induction h with
  | nil => exact k
  | cons hturn _ ih => exact .cons hturn (ih k)

theorem Moves.one {a : Agent} {u v : View} (h : TurnTo a u v) : Moves [a] u v := .cons h (.nil v)

theorem Moves.snoc {a : Agent} {as : List Agent} {u v w : View} (h : Moves as u v)
    (k : TurnTo a v w) : Moves (as ++ [a]) u w := h.append (.one k)

/-- A chain of turns is what the machine runs through when those turns are queued. -/
theorem Moves.runSteps {as ts : List Agent} {v w : View} (h : Moves as v w) {s : State}
    (hs : view s = v) (href : v.refused = []) (hturns : s.turns = as ++ ts) :
    ∃ t, runSteps as.length s = .next t ∧ view t = w ∧ t.turns = ts := by
  induction h generalizing s with
  | nil => exact ⟨s, rfl, hs, hturns⟩
  | cons hturn hrest ih =>
    rename_i a as u v' w'
    have hstop : stopReason s = none := stopReason_of_nil (by rw [← href, ← hs]; rfl)
    obtain ⟨t, ht, hview⟩ := hturn.goes { s with turns := as ++ ts } (by rw [← hs]; rfl)
    have hstep : step s = .next t := (step_of_turn hstop hturns).trans ht
    obtain ⟨t', hrun, hview', hturns'⟩ := ih hview (by rw [hturn.refused, href])
      (by rw [(step_schedule hstep).1, hturns]; rfl)
    refine ⟨t', ?_, hview', hturns'⟩
    rw [List.length_cons, Machine.runSteps, hstep]
    exact hrun

/-- A chain of the engine's turns is what its command runs through by itself. -/
theorem Moves.execTimes {as : List Agent} {v w : View} (h : Moves as v w)
    (has : ∀ a ∈ as, a = .engine) {s : State} (hs : view s = v) :
    ∃ t, execTimes as.length v.cmd s = .next t ∧ view t = w := by
  induction h generalizing s with
  | nil => exact ⟨s, rfl, hs⟩
  | cons hturn hrest ih =>
    rename_i a as u v' w'
    obtain rfl := has a (.head _)
    obtain ⟨hm, hcmd⟩ := hturn.running rfl
    obtain ⟨t, ht, hview⟩ := hturn.goes s hs
    have hrun : s.eng.mode = .run := by rw [← hm, ← hs]; rfl
    have hlatched : s.eng.cmd = u.cmd := by rw [← hs]; rfl
    rw [act, engineStep_run hrun, hlatched] at ht
    obtain ⟨t', hrest', hview'⟩ := ih (fun a ha => has a (.tail _ ha)) hview
    exact ⟨t', by rw [List.length_cons, execTimes_succ _ ht, ← hcmd, hrest'], hview'⟩

/-- The engine runs, and no access can fail. -/
abbrev Running (v : View) : Prop := v.mode = .run ∧ v.params.accessCanFail = false

/-- A turn of the engine, from what its command does at its label. -/
theorem TurnTo.of_exec {v w : View} {i : Instr} {l : Label} (hcmd : v.cmd = i) (hl : v.upc = l)
    (hrun : Running v) (href : w.refused = v.refused) (hsame : w.cmd = v.cmd)
    (h : ∀ s, view s = v → AtStep i l s → afterAsk s = s →
      ∃ t, exec i s = .next t ∧ view t = w) : TurnTo .engine v w := by
  refine ⟨href, fun _ => ⟨hrun.1, hsame⟩, fun s hs => ?_⟩
  have hm : s.eng.mode = .run := by rw [← hrun.1, ← hs]; rfl
  have hcannot : s.params.accessCanFail = false := by rw [← hrun.2, ← hs]; rfl
  have hlatched : s.eng.cmd = i := by rw [← hcmd, ← hs]; rfl
  have hupc : s.eng.upc = l := by rw [← hl, ← hs]; rfl
  have hok : (askFail s).1 = false := by simp [askFail, hcannot]
  rw [act, engineStep_run hm, hlatched]
  exact h s hs ⟨hm, hlatched, hupc, hok⟩ (afterAsk_of_cannot hcannot)

/-! ### The prologue -/

/-- In the prologue after P0: the controller as it was left, but for CR, ISR and RX_PIRQ. -/
def View.prologue (b : View) (l : Label) (cr tmp : Word) (isr : Byte) (rxPirq : Word) : View :=
  { b with
    cr := cr, isr := isr, rxPirq := rxPirq
    gpo := if b.params.softrClearsGpo then b.params.gpoResetValue else b.gpo
    txf := [], rxf := [], ls := .idle, blocked := false, trace := b.trace ++ abortOf b.ls
    upc := l, tmp := tmp }

section
variable {b : View} {cr tmp : Word} {isr : Byte} {rxPirq : Word} (hi : .p0 ∈ stepLabels b.cmd)
  (hrun : Running b)
include hi hrun

theorem turnTo_p0 (hl : b.upc = .p0) :
    TurnTo .engine b (b.prologue .p1 0#32 b.tmp b.params.isrReset 0#32) := by
  refine .of_exec rfl hl hrun rfl rfl fun s hs hat hask => ?_
  subst hs
  refine ⟨_, (prologueStepTable.2 s _ hi).1 hat, ?_⟩
  rw [hask]
  simp [view, View.prologue, softReset_env, abortOf_eq, apply_ite Environment.extBusy,
    apply_ite Environment.acks, apply_ite Environment.rbytes]
  rfl

theorem turnTo_p1 : TurnTo .engine (b.prologue .p1 cr tmp isr rxPirq)
    (b.prologue .p2 cr tmp isr (rxPirqField b.params b.params.rxPirqInit)) := by
  refine .of_exec rfl rfl hrun rfl rfl fun s hs hat hask => ?_
  refine ⟨_, (prologueStepTable.2 s _ hi).2.1 hat, ?_⟩
  rw [hask]
  have hp : s.params = b.params := congrArg View.params hs
  calc view _ = { view s with
        rxPirq := rxPirqField s.params s.params.rxPirqInit, upc := .p2 } := rfl
    _ = _ := by rw [hs, hp]; rfl

theorem turnTo_readCr {l m : Label}
    (hlm : (l, m) ∈ [(Label.p2, Label.p3), (.p4, .p5), (.p8, .p9), (.p10, .p11), (.p12, .p13)]) :
    TurnTo .engine (b.prologue l cr tmp isr rxPirq) (b.prologue m cr cr isr rxPirq) := by
  refine .of_exec rfl rfl hrun rfl rfl fun s hs hat hask => ?_
  refine ⟨_, (prologueStepTable.2 s _ hi).2.2.1 l m hlm hat, ?_⟩
  rw [hask]
  calc view _ = { view s with tmp := (view s).cr, upc := m } := rfl
    _ = _ := by rw [hs]; rfl

theorem turnTo_writeCr {l m : Label} (bit : BitVec 5) (value : Bool) (w : Word)
    (hlm : (l, bit, value, m) ∈ [(Label.p3, 1#5, true, Label.p4), (.p5, 1#5, false, .p6),
      (.p9, 0#5, true, .p10), (.p11, 6#5, false, .p12), (.p13, 1#5, false, .p14)])
    (hw : setBit tmp bit value = w) :
    TurnTo .engine (b.prologue l cr tmp isr rxPirq) (b.prologue m w tmp isr rxPirq) := by
  refine .of_exec rfl rfl hrun rfl rfl fun s hs hat hask => ?_
  refine ⟨_, (prologueStepTable.2 s _ hi).2.2.2.1 l bit value m hlm hat, ?_⟩
  have htmp : s.eng.tmp = tmp := congrArg View.tmp hs
  have hclean : s.txf = [] ∧ s.rxf = [] ∧ s.ls = .idle ∧ s.framingBlocked = false :=
    ⟨congrArg View.txf hs, congrArg View.rxf hs, congrArg View.ls hs, congrArg View.blocked hs⟩
  rw [hask, writeCr_of_clean _ hclean, htmp, hw]
  calc view _ = { view s with cr := w, upc := m } := rfl
    _ = _ := by rw [hs]; rfl

theorem turnTo_p6 : TurnTo .engine (b.prologue .p6 cr tmp isr rxPirq)
    (b.prologue .p7 cr (isr.setWidth 32) isr rxPirq) := by
  refine .of_exec rfl rfl hrun rfl rfl fun s hs hat hask => ?_
  obtain ⟨-, -, -, -, hp6, -⟩ := prologueStepTable.2 s _ hi
  refine ⟨_, hp6 hat, ?_⟩
  rw [hask]
  calc view _ = { view s with tmp := (view s).isr.setWidth 32, upc := .p7 } := rfl
    _ = _ := by rw [hs]; rfl

theorem turnTo_p7 : TurnTo .engine (b.prologue .p7 cr tmp isr rxPirq)
    (b.prologue .p8 cr tmp 0x00#8 rxPirq) := by
  refine .of_exec rfl rfl hrun rfl rfl fun s hs hat hask => ?_
  obtain ⟨-, -, -, -, -, hp7, -⟩ := prologueStepTable.2 s _ hi
  refine ⟨_, hp7 hat, ?_⟩
  rw [hask]
  calc view _ = { view s with isr := 0x00#8, upc := .p8 } := rfl
    _ = _ := by rw [hs]; rfl

/-- The prologue's fourteen accesses leave the same controller whatever they found (R180). -/
theorem moves_prologue (hl : b.upc = .p0) : Moves (List.replicate 14 .engine) b
    (b.prologue .p14 0x00000001#32 0x00000001#32 0x00#8
      (rxPirqField b.params b.params.rxPirqInit)) :=
  .cons (turnTo_p0 hi hrun hl) <|
  .cons (turnTo_p1 hi hrun) <|
  .cons (turnTo_readCr hi hrun (l := .p2) (m := .p3) (by decide)) <|
  .cons (turnTo_writeCr hi hrun (l := .p3) (m := .p4) 1#5 true 0x00000002#32 (by decide)
    (by decide)) <|
  .cons (turnTo_readCr hi hrun (l := .p4) (m := .p5) (by decide)) <|
  .cons (turnTo_writeCr hi hrun (l := .p5) (m := .p6) 1#5 false 0x00000000#32 (by decide)
    (by decide)) <|
  .cons (turnTo_p6 hi hrun) <|
  .cons (turnTo_p7 hi hrun) <|
  .cons (turnTo_readCr hi hrun (l := .p8) (m := .p9) (by decide)) <|
  .cons (turnTo_writeCr hi hrun (l := .p9) (m := .p10) 0#5 true 0x00000001#32 (by decide)
    (by decide)) <|
  .cons (turnTo_readCr hi hrun (l := .p10) (m := .p11) (by decide)) <|
  .cons (turnTo_writeCr hi hrun (l := .p11) (m := .p12) 6#5 false 0x00000001#32 (by decide)
    (by decide)) <|
  .cons (turnTo_readCr hi hrun (l := .p12) (m := .p13) (by decide)) <|
  .one (turnTo_writeCr hi hrun (l := .p13) (m := .p14) 1#5 false 0x00000001#32 (by decide)
    (by decide))

/-- The poll of the prologue on a free bus (R181). -/
theorem turnTo_p14 (hl : b.upc = .p14) (htxf : b.txf = []) (hrxf : b.rxf = []) (hls : b.ls = .idle)
    (hfree : b.extBusy = false) : TurnTo .engine b { b with
      upc := afterPrologue b.cmd, mode := if b.cmd = .initDevice then .idle else .run } := by
  refine .of_exec rfl hl hrun rfl rfl fun s hs hat hask => ?_
  subst hs
  obtain ⟨-, -, -, -, -, -, hleaves, -⟩ := prologueStepTable.2 s _ hi
  have hown : ownBusy s.ls = false := by rw [show s.ls = .idle from hls]; rfl
  refine ⟨_, hleaves hat ⟨htxf, hrxf, hown, hfree⟩, ?_⟩
  rw [hask]
  rfl

end

/-! ### What the prologue forgets (R180) -/

/-- An admitted command, as a view. -/
def View.admitted (v : View) (i : Instr) : View :=
  { v with mode := .run, cmd := i, upc := firstLabel i }

/-- A command admitted by itself, then its turns. -/
theorem execTimes_admitted {s : State} {i : Instr} {as : List Agent} {w : View}
    (hk : i.kind = .command) (hwf : i.wf = true) (hm : s.eng.mode = .idle)
    (has : ∀ a ∈ as, a = .engine) (h : Moves as ((view s).admitted i) w) :
    ∃ t, execTimes (as.length + 1) i s = .next t ∧ view t = w := by
  rw [execTimes_succ _ (exec_admits hk hwf hm)]
  exact h.execTimes has rfl

theorem execTimes_snoc {i : Instr} {s t u : State} {n : Nat} (h : execTimes n i s = .next t)
    (k : exec i t = .next u) : execTimes (n + 1) i s = .next u := by
  induction n generalizing s with
  | zero =>
    cases h
    rw [execTimes_succ _ k, execTimes]
  | succ n ih =>
    rw [execTimes] at h
    split at h
    next t' ht' => rw [execTimes_succ _ ht', ih h]
    all_goals cases h

/-- The low byte of SR on an empty controller with an Idle line (10_state.md R24). -/
theorem srByte_of_empty {s : State} (htxf : s.txf = []) (hrxf : s.rxf = []) (hls : s.ls = .idle)
    (htx : 0 < s.params.txDepth) (hrx : 0 < s.params.rxDepth) :
    (srWord s).extractLsb' 0 8 = if s.env.extBusy then 0xC4#8 else 0xC0#8 := by
  refine BitVec.eq_of_getLsbD_eq fun k hk => ?_
  have htx' : ¬ (0 = s.params.txDepth) := by omega
  have hrx' : ¬ (0 = s.params.rxDepth) := by omega
  rw [BitVec.getLsbD_extractLsb', srWord_getLsbD]
  cases s.env.extBusy <;> interval_cases k <;> simp [htxf, hrxf, hls, htx', hrx']

theorem p14_mem_of_p0 {i : Instr} (hi : .p0 ∈ stepLabels i) : .p14 ∈ stepLabels i := by
  revert hi
  cases i <;> simp [stepLabels, prologueLabels]

theorem firstLabel_of_p0 {i : Instr} (hi : .p0 ∈ stepLabels i) : firstLabel i = .p0 := by
  revert hi
  cases i <;> simp [stepLabels, firstLabel]

/-- Settles O32: the view after the prologue's fourteen accesses, then its poll. -/
theorem prologueForgetsWhatItFound : Obligations.PrologueForgetsWhatItFound := by
  intro s i hi hwf hm hfail hgpo htx hrx
  have hk := kind_of_mem_stepLabels hi
  obtain ⟨t, ht, hview⟩ := execTimes_admitted hk hwf hm (by simp)
    (moves_prologue (b := (view s).admitted i) hi ⟨rfl, hfail⟩ (firstLabel_of_p0 hi))
  have hparams : t.params = s.params := congrArg View.params hview
  have hmode : t.eng.mode = .run := congrArg View.mode hview
  have hupc : t.eng.upc = .p14 := congrArg View.upc hview
  have hcmd : t.eng.cmd = i := congrArg View.cmd hview
  have htxf : t.txf = [] := congrArg View.txf hview
  have hrxf : t.rxf = [] := congrArg View.rxf hview
  have hls : t.ls = .idle := congrArg View.ls hview
  have hgpo' : t.gpo = s.gpo := by
    have hsame : t.gpo = if s.params.softrClearsGpo then _ else s.gpo := congrArg View.gpo hview
    rwa [hgpo] at hsame
  have hbusy : t.env.extBusy = s.env.extBusy := congrArg View.extBusy hview
  have hcannot : t.params.accessCanFail = false := by rw [hparams, hfail]
  have hat : AtStep i .p14 t := ⟨hmode, hcmd, hupc, by simp [askFail, hcannot]⟩
  have hsr := srByte_of_empty htxf hrxf hls (by rwa [hparams]) (by rwa [hparams])
  refine ⟨t, ht, congrArg View.cr hview, congrArg View.isr hview, congrArg View.rxPirq hview, htxf,
    hrxf, hls, congrArg View.blocked hview, hgpo', congrArg View.trace hview, hbusy,
    congrArg View.res hview, congrArg View.faults hview, congrArg View.refused hview, hmode, hupc,
    hcmd,    fun hinit hfree => ?_, fun hheld => ?_⟩
  · obtain ⟨-, -, -, -, -, -, hleaves, -⟩ := prologueStepTable.2 t i hi
    have hown : ownBusy t.ls = false := by rw [hls]; rfl
    have hend := hleaves hat ⟨htxf, hrxf, hown, by rw [hbusy, hfree]⟩
    have hstays : afterPrologue i = t.eng.upc := by rw [hupc, hinit]; rfl
    rw [afterAsk_of_cannot hcannot, hsr, hbusy, hfree, if_pos hinit, hstays] at hend
    exact execTimes_snoc ht hend
  · have hstay := exec_prologuePoll_waits (p14_mem_of_p0 hi) hat (by rw [hbusy, hheld])
    rw [afterAsk_of_cannot hcannot, hsr, hbusy, hheld] at hstay
    exact execTimes_snoc ht hstay

end Sys2Proof.Machine
end

section
/-! PROOFS. The turns of a transaction's transfer, seen as views: the engine's enqueue steps, and the
bus side's steps on an enabled device with one master. -/

namespace Sys2Proof.Machine

/-! ### From the host's turn to the first enqueue -/

/-- What a launched transaction finds when its prologue is over. -/
def View.ready (v : View) (i : Instr) : View :=
  { (v.admitted i).prologue .p14 0x00000001#32 0x00000001#32 0x00#8
      (rxPirqField v.params v.params.rxPirqInit) with upc := afterPrologue i }

theorem moves_ready {v : View} {i : Instr} (hi : .p0 ∈ stepLabels i) (hinit : i ≠ .initDevice)
    (hfail : v.params.accessCanFail = false) (hfree : v.extBusy = false) :
    Moves (List.replicate 15 .engine) (v.admitted i) (v.ready i) := by
  have hpoll := turnTo_p14 (b := (v.admitted i).prologue .p14 0x00000001#32 0x00000001#32 0x00#8
    (rxPirqField v.params v.params.rxPirqInit)) hi ⟨rfl, hfail⟩ rfl rfl rfl rfl hfree
  rw [show (View.prologue _ _ _ _ _ _).cmd = i from rfl, if_neg hinit] at hpoll
  exact (moves_prologue (b := v.admitted i) hi ⟨rfl, hfail⟩ (firstLabel_of_p0 hi)).snoc hpoll

/-- A command launched by the host, then the turns queued after the host's. -/
theorem runSteps_launch {s : State} {i : Instr} {as ts : List Agent} {w : View} {n : Nat}
    (hk : i.kind = .command) (hwf : i.wf = true) (hlaunch : Launch i s)
    (hturns : s.turns = .host :: (as ++ ts)) (hn : n = as.length + 1)
    (h : Moves as ((view s).admitted i) w) :
    ∃ t, runSteps n s = .next t ∧ view t = w ∧ t.turns = ts := by
  obtain ⟨hm, href, -, -, -, p, rest, hencode, hinputs⟩ := hlaunch
  have hdecode := decode_encode_command hk hwf hencode
  have hstep : step s = .next { s with
      turns := as ++ ts, inputs := rest, ret := .done
      eng := { s.eng with cmd := i, upc := firstLabel i, mode := .run } } := by
    rw [step_of_turn (stopReason_of_nil href) hturns, act, hostStep]
    simp only [hinputs]
    rw [hostAction, presentStep_ok (by exact hm) hdecode, exec_admits hk hwf (by exact hm)]
  rw [hn, runSteps, hstep]
  exact h.runSteps rfl href rfl

/-! ### Enqueuing -/

theorem pushEntry_of_room {s : State} (e : Entry) (hcr : s.cr.getLsbD 1 = false)
    (hroom : s.txf.length < s.params.txDepth) :
    pushEntry e s = { s with txf := s.txf ++ [e] } := by
  have hfull : s.txf.length ≠ s.params.txDepth := Nat.ne_of_lt hroom
  rw [pushEntry, if_neg (not_or.mpr ⟨Bool.eq_false_iff.mp hcr, hfull⟩), if_neg fun h => hfull h.2]

/-- The device is enabled and the transmit FIFO has room. -/
abbrev Room (v : View) : Prop := v.cr = 0x00000001#32 ∧ v.txf.length < v.params.txDepth

/-- A turn of the engine that queues an entry. -/
theorem TurnTo.of_push {v w : View} {i : Instr} {l : Label} (e : Entry) (hcmd : v.cmd = i)
    (hl : v.upc = l) (hrun : Running v) (hroom : Room v) (href : w.refused = v.refused)
    (hsame : w.cmd = v.cmd)
    (h : ∀ s, view s = v → AtStep i l s → ∃ t, exec i s = .next t ∧
      (pushEntry e (afterAsk s) = { s with txf := s.txf ++ [e] } → view t = w)) :
    TurnTo .engine v w := by
  refine .of_exec hcmd hl hrun href hsame fun s hs hat hask => ?_
  obtain ⟨t, ht, hview⟩ := h s hs hat
  refine ⟨t, ht, hview ?_⟩
  obtain ⟨hcr, hlen⟩ := hroom
  subst hs
  rw [hask]
  exact pushEntry_of_room e (by rw [show s.cr = _ from hcr]; decide) hlen

/-! ### The bus side -/

/-- An enabled device on a bus side that nothing blocks, the only master. -/
abbrev BusReady (v : View) : Prop :=
  v.cr = 0x00000001#32 ∧ v.blocked = false ∧ v.refused = [] ∧ v.params.multiMaster = false

theorem TurnTo.of_bus {v w : View} (hready : BusReady v) (href : w.refused = v.refused)
    (h : ∀ s, view s = v → BusOn s → askLost s = (false, s) →
      ∃ t, busStep s = .next t ∧ view t = w) : TurnTo .bus v w := by
  refine ⟨href, (fun ha => by cases ha), fun s hs => ?_⟩
  obtain ⟨hcr, hblocked, hnone, hsingle⟩ := hready
  subst hs
  have hcr : s.cr = 0x00000001#32 := hcr
  refine h s rfl ⟨?_, ?_, hblocked, ?_⟩ (askLost_of_single s hsingle)
  · rw [hcr]; decide
  · rw [hcr]; decide
  · rw [show s.refused = [] from hnone]; exact List.not_mem_nil

/-- ISR after a pop that leaves `rest` (R224). -/
def View.afterPop (v : View) (rest : List Entry) : Byte :=
  v.isr ||| (if rest = [] then 0x04#8 else 0#8)
    ||| (if rest.length = v.params.txDepth / 2 then 0x80#8 else 0#8)

/-- It sets no error flag. -/
theorem afterPop_error (v : View) (rest : List Entry) :
    (v.afterPop rest).getLsbD 1 = v.isr.getLsbD 1 := by
  unfold View.afterPop
  split <;> split <;> simp

section
variable {b : View} (hready : BusReady b)
include hready

theorem turnTo_popStart {e : Entry} {rest : List Entry} (hls : b.ls = .idle)
    (htxf : b.txf = e :: rest) (hstart : e.getLsbD 8 = true) (hfree : b.extBusy = false) :
    TurnTo .bus b { b with
      txf := rest, isr := b.afterPop rest, trace := b.trace ++ [.start]
      ls := .sendAddr (e.extractLsb' 0 8) (e.getLsbD 9) } := by
  refine .of_bus hready rfl fun s hs hon _ => ?_
  subst hs
  exact ⟨_, ((busTakesEntriesInOrder s hon).1 e rest htxf).1 hls hstart hfree, rfl⟩

theorem turnTo_popRepStart {e : Entry} {rest : List Entry} (hls : b.ls = .txWait)
    (htxf : b.txf = e :: rest) (hstart : e.getLsbD 8 = true) :
    TurnTo .bus b { b with
      txf := rest, isr := b.afterPop rest, trace := b.trace ++ [.rstart]
      ls := .sendAddr (e.extractLsb' 0 8) (e.getLsbD 9) } := by
  refine .of_bus hready rfl fun s hs hon _ => ?_
  subst hs
  exact ⟨_, ((busTakesEntriesInOrder s hon).1 e rest htxf).2.2.1 hls hstart, rfl⟩

theorem turnTo_popData {e : Entry} {rest : List Entry} (hls : b.ls = .txWait)
    (htxf : b.txf = e :: rest) (hstart : e.getLsbD 8 = false) :
    TurnTo .bus b { b with
      txf := rest, isr := b.afterPop rest, ls := .sendData (e.extractLsb' 0 8) (e.getLsbD 9) } := by
  refine .of_bus hready rfl fun s hs hon _ => ?_
  subst hs
  exact ⟨_, ((busTakesEntriesInOrder s hon).1 e rest htxf).2.2.2.1 hls hstart, rfl⟩

theorem turnTo_popCount {e : Entry} {rest : List Entry} (hls : b.ls = .rxCountWait)
    (htxf : b.txf = e :: rest) (hstart : e.getLsbD 8 = false) (hstop : e.getLsbD 9 = true)
    (hcount : e.extractLsb' 0 8 ≠ 0#8) :
    TurnTo .bus b { b with
      txf := rest, isr := b.afterPop rest, ls := .rx (e.extractLsb' 0 8).toNat } := by
  refine .of_bus hready rfl fun s hs hon _ => ?_
  subst hs
  exact ⟨_, ((busTakesEntriesInOrder s hon).1 e rest htxf).2.2.2.2 hls hstart hstop hcount, rfl⟩

/-- An address byte without stop flag that is acknowledged (R217). -/
theorem turnTo_addrAcked {byte : Byte} {more : List Bool} (hls : b.ls = .sendAddr byte false)
    (hacks : b.acks = true :: more) :
    TurnTo .bus b { b with
      acks := more, trace := b.trace ++ [.addr byte true]
      ls := if byte.getLsbD 0 then .rxCountWait else .txWait } := by
  refine .of_bus hready rfl fun s hs hon hlost => ?_
  subst hs
  refine ⟨_, (sentBytesAreAnswered s s _ byte false true hon hlost).1 hls
    (askAck_scripted _ s _ more hacks), ?_⟩
  have hblocked : s.framingBlocked = false := hready.2.1
  cases byte.getLsbD 0 <;> simp [view, hblocked]

/-- One that is not acknowledged. -/
theorem turnTo_addrRefused {byte : Byte} {more : List Bool} (hls : b.ls = .sendAddr byte false)
    (hacks : b.acks = false :: more) :
    TurnTo .bus b { b with
      acks := more, trace := b.trace ++ [.addr byte false], isr := b.isr ||| 0x02#8
      ls := .stopping true } := by
  refine .of_bus hready rfl fun s hs hon hlost => ?_
  subst hs
  refine ⟨_, (sentBytesAreAnswered s s _ byte false false hon hlost).1 hls
    (askAck_scripted _ s _ more hacks), ?_⟩
  have hblocked : s.framingBlocked = false := hready.2.1
  simp [view, hblocked]

/-- A data byte that is acknowledged (R218). -/
theorem turnTo_dataAcked {byte : Byte} {stop : Bool} {more : List Bool}
    (hls : b.ls = .sendData byte stop) (hacks : b.acks = true :: more) :
    TurnTo .bus b { b with
      acks := more, trace := b.trace ++ [.txb byte true]
      ls := if stop then .stopping false else .txWait } := by
  refine .of_bus hready rfl fun s hs hon hlost => ?_
  subst hs
  refine ⟨_, (sentBytesAreAnswered s s _ byte stop true hon hlost).2 hls
    (askAck_scripted _ s _ more hacks), ?_⟩
  simp [view]

/-- ISR after a byte received into the empty receive FIFO (R220). -/
def View.afterRecv (v : View) : Byte :=
  if v.rxPirq.toNat + 1 ≤ 1 then v.isr ||| 0x08#8 else v.isr

omit hready in
theorem afterRecv_error (v : View) : v.afterRecv.getLsbD 1 = v.isr.getLsbD 1 := by
  unfold View.afterRecv
  split <;> simp

theorem turnTo_recv {n : Nat} {byte : Byte} {more : List Byte} (hls : b.ls = .rx n)
    (hrxf : b.rxf = []) (hdepth : 1 ≤ b.params.rxDepth) (hbytes : b.rbytes = byte :: more) :
    TurnTo .bus b { b with
      rxf := [byte], rbytes := more, isr := b.afterRecv
      trace := b.trace ++ [.rxb byte (decide (1 < n))]
      ls := if 1 < n then .rx (n - 1) else .stopping false } := by
  refine .of_bus hready rfl fun s hs hon _ => ?_
  subst hs
  have hrxf : s.rxf = [] := hrxf
  refine ⟨_, (receiveStopAndHalt s hon).1 n byte _ hls (by rw [hrxf]; exact hdepth)
    (askByte_scripted s byte more hbytes), ?_⟩
  simp [view, View.afterRecv, hrxf]

theorem turnTo_stop {halt : Bool} (hls : b.ls = .stopping halt) :
    TurnTo .bus b { b with
      trace := b.trace ++ [.stop], isr := b.isr ||| 0x10#8
      ls := if halt then .halted else .idle } := by
  refine .of_bus hready rfl fun s hs hon _ => ?_
  subst hs
  refine ⟨_, (receiveStopAndHalt s hon).2.2.1 halt hls, ?_⟩
  simp [view]

end

/-! ### The fields of the entries (30_encoding.md R93, R101) -/

/-- The fields of an entry: byte, start flag, stop flag. -/
theorem entry_fields (flags : BitVec 2) (byte : Byte) :
    (flags ++ byte : BitVec (2 + 8)).getLsbD 8 = flags.getLsbD 0 ∧
      (flags ++ byte : BitVec (2 + 8)).getLsbD 9 = flags.getLsbD 1 ∧
      (flags ++ byte : BitVec (2 + 8)).extractLsb' 0 8 = byte := by
  refine ⟨by rw [BitVec.getLsbD_append]; rfl, by rw [BitVec.getLsbD_append]; rfl,
    BitVec.eq_of_getLsbD_eq fun k hk => ?_⟩
  rw [BitVec.getLsbD_extractLsb', BitVec.getLsbD_append]
  simp [hk]

theorem startEntry_fields (address : Address) (read : Bool) :
    (startEntry address read).getLsbD 8 = true ∧ (startEntry address read).getLsbD 9 = false ∧
      (startEntry address read).extractLsb' 0 8 = wireAddress address read :=
  entry_fields 1#2 (wireAddress address read)

end Sys2Proof.Machine
end

section
/-! PROOFS. Whole writes (44_transaction_engine.md section 3, 70_reset_and_hazards.md section 3). -/

namespace Sys2Proof.Machine

/-! ### What a write queues -/

theorem dataEntries_length (data : List Byte) : (dataEntries data).length = data.length := by
  induction data with
  | nil => rfl
  | cons byte rest ih =>
    cases rest with
    | nil => rfl
    | cons next rest => rw [dataEntries, List.length_cons, ih]; rfl

/-- The stop flag is on the last entry alone. -/
theorem dataEntries_getElem {data : List Byte} {k : Nat} {byte : Byte}
    (h : data[k]? = some byte) : (dataEntries data)[k]? =
      some (if k + 1 = data.length then (2#2 ++ byte : BitVec (2 + 8))
        else (0#2 ++ byte : BitVec (2 + 8))) := by
  induction data generalizing k with
  | nil => cases h
  | cons first rest ih =>
    cases rest with
    | nil =>
      cases k with
      | zero => cases h; rfl
      | succ k => cases h
    | cons next rest =>
      cases k with
      | zero => cases h; simp [dataEntries]
      | succ k =>
        rw [List.getElem?_cons_succ] at h
        rw [dataEntries, List.getElem?_cons_succ, ih h]
        simp

theorem dataEntries_take_succ {data : List Byte} {k : Nat} {byte : Byte}
    (h : data[k]? = some byte) : (dataEntries data).take (k + 1) = (dataEntries data).take k ++
      [if k + 1 = data.length then (2#2 ++ byte : BitVec (2 + 8))
        else (0#2 ++ byte : BitVec (2 + 8))] := by
  rw [List.take_add_one, dataEntries_getElem h]
  rfl

section
variable {b : View} {address : Address} {count : Byte} {data : List Byte}
  (hcmd : b.cmd = .writeReg address count data) (hrun : Running b)
include hcmd hrun

theorem turnTo_w0 (hl : b.upc = .w0) (hroom : Room b) : TurnTo .engine b { b with
    txf := b.txf ++ [startEntry address false], i := 0#8, upc := .w1 } := by
  refine .of_push (startEntry address false) hcmd hl hrun hroom rfl rfl fun s hs hat => ?_
  subst hs
  refine ⟨_, (writeEnqueueSteps s address count data).1 hat, fun hpush => ?_⟩
  rw [hpush]
  rfl

theorem turnTo_w1 {byte : Byte} (hl : b.upc = .w1) (hroom : Room b)
    (hbyte : data[b.i.toNat]? = some byte) (hi : b.i.toNat < count.toNat) :
    TurnTo .engine b { b with
      txf := b.txf ++ [if b.i.toNat + 1 = count.toNat then (2#2 ++ byte : BitVec (2 + 8))
        else (0#2 ++ byte : BitVec (2 + 8))]
      i := b.i + 1#8, upc := if b.i.toNat + 1 < count.toNat then .w1 else .w2 } := by
  refine .of_push (if b.i.toNat + 1 = count.toNat then (2#2 ++ byte : BitVec (2 + 8))
    else (0#2 ++ byte : BitVec (2 + 8))) hcmd hl hrun hroom rfl rfl fun s hs hat => ?_
  subst hs
  refine ⟨_, (writeEnqueueSteps s address count data).2 byte hat hbyte hi, fun hpush => ?_⟩
  exact congrArg (fun u => view { u with eng := { s.eng with
    i := s.eng.i + 1#8
    upc := if s.eng.i.toNat + 1 < count.toNat then .w1 else .w2 } }) hpush

/-- The first `k` of the data entries (R183). -/
theorem moves_w1 (hwf : data.length = count.toNat) (hcr : b.cr = 0x00000001#32)
    (hfits : count.toNat + 1 ≤ b.params.txDepth) {k : Nat} (hpos : 0 < count.toNat)
    (hk : k ≤ count.toNat) : Moves (List.replicate k .engine)
      { b with upc := .w1, i := 0#8, txf := [startEntry address false] }
      { b with
        upc := if k < count.toNat then .w1 else .w2, i := BitVec.ofNat 8 k
        txf := startEntry address false :: (dataEntries data).take k } := by
  induction k with
  | zero => rw [if_pos hpos]; exact .nil _
  | succ k ih =>
    have hcount := count.isLt
    have hindex : (BitVec.ofNat 8 k).toNat = k := by
      rw [BitVec.toNat_ofNat]; exact Nat.mod_eq_of_lt (by omega)
    obtain ⟨byte, hbyte⟩ : ∃ byte, data[k]? = some byte :=
      ⟨data[k], List.getElem?_eq_getElem (by omega)⟩
    have hstep := turnTo_w1 (b := { b with
      upc := .w1, i := BitVec.ofNat 8 k
      txf := startEntry address false :: (dataEntries data).take k }) hcmd hrun rfl
      ⟨hcr, by simp only [List.length_cons, List.length_take]; omega⟩
      (by rw [hindex]; exact hbyte) (by rw [hindex]; omega)
    have hpre := ih (by omega)
    rw [if_pos (by omega)] at hpre
    rw [List.replicate_succ']
    have hmove := hpre.snoc hstep
    simp only [hindex] at hmove
    rw [← hwf, List.cons_append, ← dataEntries_take_succ hbyte, hwf] at hmove
    rwa [BitVec.ofNat_add]

/-- A write up to its poll: everything is queued. -/
theorem moves_writeQueued (hwf : data.length = count.toNat) (hpos : 0 < count.toNat)
    (hl : b.upc = .w0) (hcr : b.cr = 0x00000001#32) (htxf : b.txf = [])
    (hfits : count.toNat + 1 ≤ b.params.txDepth) :
    Moves (.engine :: List.replicate count.toNat .engine) b { b with
      upc := .w2, i := count, txf := startEntry address false :: dataEntries data } := by
  have hfirst := turnTo_w0 hcmd hrun hl ⟨hcr,
    by rw [htxf]; exact Nat.lt_of_lt_of_le (Nat.succ_pos _) hfits⟩
  rw [htxf, List.nil_append] at hfirst
  have hrest := moves_w1 hcmd hrun hwf hcr hfits hpos (Nat.le_refl _)
  rw [if_neg (Nat.lt_irrefl _), BitVec.ofNat_toNat, BitVec.setWidth_eq,
    List.take_of_length_le (by rw [dataEntries_length, hwf])] at hrest
  exact .cons hfirst hrest

theorem turnTo_w2 (hl : b.upc = .w2)
    (hexit : b.txf = [] ∨ (ownBusy b.ls = false ∧ b.extBusy = false)) :
    TurnTo .engine b { b with upc := .w3 } := by
  refine .of_exec hcmd hl hrun rfl rfl fun s hs hat hask => ?_
  subst hs
  refine ⟨_, (writeEpilogueSteps s address count data).1 hat, ?_⟩
  have hleaves : ¬ (s.txf ≠ [] ∧ (ownBusy s.ls = true ∨ s.env.extBusy = true)) := by
    rintro ⟨htxf, hbusy⟩
    obtain ⟨hown, hfree⟩ := hexit.resolve_left htxf
    have hown : ownBusy s.ls = false := hown
    have hfree : s.env.extBusy = false := hfree
    simp [hown, hfree] at hbusy
  rw [hask, if_neg hleaves]
  rfl

theorem turnTo_w3 (hl : b.upc = .w3) :
    TurnTo .engine b { b with upc := .w4, flags := b.isr } := by
  refine .of_exec hcmd hl hrun rfl rfl fun s hs hat hask => ?_
  subst hs
  refine ⟨_, (writeEpilogueSteps s address count data).2.1 hat, ?_⟩
  rw [hask]
  rfl

theorem turnTo_w4 {w : Word} (hl : b.upc = .w4) (hcr : b.cr = w) :
    TurnTo .engine b { b with upc := .w5, tmp := w } := by
  refine .of_exec hcmd hl hrun rfl rfl fun s hs hat hask => ?_
  subst hs
  subst hcr
  refine ⟨_, (writeEpilogueSteps s address count data).2.2.1 hat, ?_⟩
  rw [hask]
  rfl

end

/-- A view after the write that disables the device (R185, R189). -/
def View.disabled (b : View) : View :=
  { b with
    cr := 0x00000000#32, ls := .idle, blocked := false, trace := b.trace ++ abortOf b.ls
    mode := .idle }

/-- The write that disables the device. -/
theorem view_disabled {s : State} (hcr : s.cr = 0x00000001#32) (htmp : s.eng.tmp = 0x00000001#32) :
    view (writeCr (setBit s.eng.tmp 0#5 false) s) =
      { (view s).disabled with mode := s.eng.mode } := by
  have hword : setBit 0x00000001#32 0#5 false = 0x00000000#32 := by decide
  have hflush : (0x00000000#32 : Word).getLsbD 1 = false := by decide
  have hen : s.cr.getLsbD 0 = true ∧ (0x00000000#32 : Word).getLsbD 0 = false := by
    rw [hcr]; decide
  rw [htmp, hword, writeCr_eq_controlWritten, controlWritten]
  simp only [hflush, hen, and_self, if_true, true_and]
  simp [view, View.disabled, apply_ite Environment.extBusy, apply_ite Environment.acks,
    apply_ite Environment.rbytes]

theorem turnTo_w5 {b : View} {address : Address} {count : Byte} {data : List Byte}
    (hcmd : b.cmd = .writeReg address count data) (hrun : Running b) (hl : b.upc = .w5)
    (hcr : b.cr = 0x00000001#32) (htmp : b.tmp = 0x00000001#32) :
    TurnTo .engine b { b.disabled with res := { b.res with fail := b.flags.getLsbD 1 } } := by
  refine .of_exec hcmd hl hrun rfl rfl fun s hs hat hask => ?_
  subst hs
  obtain ⟨t, ht, hexec⟩ := (writeEpilogueSteps s address count data).2.2.2 hat
  rw [hask] at ht
  refine ⟨_, hexec, ?_⟩
  have hview : view t = _ := ht ▸ view_disabled hcr htmp
  calc view _ = { view t with
        mode := .idle, upc := s.eng.upc, cmd := s.eng.cmd, tmp := s.eng.tmp, flags := s.eng.isr
        i := s.eng.i, res := { s.res with fail := s.eng.isr.getLsbD 1 } } := rfl
    _ = _ := by rw [hview]; rfl

/-- The poll of a write and its epilogue (R184, R185). -/
theorem moves_writeEnd {b : View} {address : Address} {count : Byte} {data : List Byte}
    (hcmd : b.cmd = .writeReg address count data) (hrun : Running b) (hl : b.upc = .w2)
    (hcr : b.cr = 0x00000001#32)
    (hexit : b.txf = [] ∨ (ownBusy b.ls = false ∧ b.extBusy = false)) :
    Moves (List.replicate 4 .engine) b { b.disabled with
      upc := .w5, flags := b.isr, tmp := 0x00000001#32
      res := { b.res with fail := b.isr.getLsbD 1 } } := by
  exact .cons (turnTo_w2 hcmd hrun hl hexit) <|
    .cons (turnTo_w3 (b := { b with upc := .w3 }) hcmd hrun rfl) <|
    .cons (turnTo_w4 (b := { b with upc := .w4, flags := b.isr }) hcmd hrun rfl hcr) <|
    .one (turnTo_w5 (b := { b with upc := .w5, flags := b.isr, tmp := 0x00000001#32 }) hcmd hrun rfl
      hcr rfl)

/-! ### A write on a bus side that does not move (70_reset_and_hazards.md R300) -/

/-- The bytes of a well-formed write are as many as its count says (30_encoding.md R98). -/
theorem writeReg_wf {address : Address} {count : Byte} {data : List Byte}
    (h : (Instr.writeReg address count data).wf = true) :
    data.length = count.toNat ∧ 0 < count.toNat := by
  simp only [Instr.wf, countOk, Bool.and_eq_true, bne_iff_ne, beq_iff_eq] at h
  obtain ⟨hcount, hlen⟩ := h
  exact ⟨by omega, by bv_omega⟩

/-- What a write has queued when its poll begins. -/
def View.written (v : View) (address : Address) (count : Byte) (data : List Byte) : View :=
  { v.ready (.writeReg address count data) with
    upc := .w2, i := count, txf := startEntry address false :: dataEntries data }

/-- A write up to its poll, from its admission on. -/
theorem moves_written {v : View} {address : Address} {count : Byte} {data : List Byte}
    (hwf : (Instr.writeReg address count data).wf = true) (hfail : v.params.accessCanFail = false)
    (hfree : v.extBusy = false) (hfits : count.toNat + 1 ≤ v.params.txDepth) :
    Moves (List.replicate (count.toNat + 16) .engine) (v.admitted (.writeReg address count data))
      (v.written address count data) := by
  obtain ⟨hlen, hpos⟩ := writeReg_wf hwf
  have hready := moves_ready (i := .writeReg address count data) (.head _) (by simp) hfail hfree
  have hqueue := moves_writeQueued (b := v.ready (.writeReg address count data)) rfl ⟨rfl, hfail⟩
    hlen hpos rfl rfl rfl hfits
  have hmoves := hready.append hqueue
  rwa [← List.replicate_succ, ← List.replicate_add,
    show 15 + (count.toNat + 1) = count.toNat + 16 by omega] at hmoves

/-- Settles O38: the write's poll ends on the Idle line that the prologue left. -/
theorem lazyWriteSucceedsWithNothingSent : Obligations.LazyWriteSucceedsWithNothingSent := by
  intro s address count data hwf hm hfail hfree hfits
  have hqueued := moves_written (v := view s) hwf hfail hfree hfits
  have hend := moves_writeEnd (b := (view s).written address count data) rfl ⟨rfl, hfail⟩ rfl rfl
    (.inr ⟨rfl, hfree⟩)
  have hmoves := hqueued.append hend
  rw [← List.replicate_add] at hmoves
  obtain ⟨t, ht, hview⟩ := execTimes_admitted rfl hwf hm (by simp) hmoves
  rw [List.length_replicate] at ht
  have hres : t.res = { s.res with fail := (0x00#8 : Byte).getLsbD 1 } := congrArg View.res hview
  rw [BitVec.getLsbD_zero] at hres
  refine ⟨t, ht, congrArg View.mode hview, hres, congrArg View.cr hview, congrArg View.ls hview,
    congrArg View.isr hview, congrArg View.txf hview, congrArg View.rxf hview,
    ?_, congrArg View.faults hview, congrArg View.refused hview⟩
  simpa [abortOf] using show t.trace = s.trace ++ abortOf s.ls ++ abortOf .idle from
    congrArg View.trace hview

/-! ### Writes that the bus side sends (45_bus_side.md section 3) -/

/-- A start entry whose address byte is acknowledged. -/
theorem moves_startAcked {b : View} {address : Address} {read : Bool} {rest : List Entry}
    {more : List Bool} (hready : BusReady b) (hls : b.ls = .idle) (hfree : b.extBusy = false)
    (htxf : b.txf = startEntry address read :: rest) (hacks : b.acks = true :: more) :
    Moves (List.replicate 2 .bus) b { b with
      txf := rest, acks := more, isr := b.afterPop rest
      trace := b.trace ++ [.start, .addr (wireAddress address read) true]
      ls := if read then .rxCountWait else .txWait } := by
  obtain ⟨hstart, hstop, hbyte⟩ := startEntry_fields address read
  have hpop := turnTo_popStart hready hls htxf hstart hfree
  rw [hstop, hbyte] at hpop
  have haddr := turnTo_addrAcked (byte := wireAddress address read) (b := { b with
    txf := rest, isr := b.afterPop rest, trace := b.trace ++ [.start]
    ls := .sendAddr (wireAddress address read) false }) hready rfl hacks
  rw [wireAddress_read] at haddr
  have hmoves := Moves.cons hpop (.one haddr)
  rwa [show (View.trace { b with
    txf := rest, isr := b.afterPop rest, trace := b.trace ++ [.start]
    ls := .sendAddr (wireAddress address read) false }) = b.trace ++ [.start] from rfl,
    List.append_assoc] at hmoves

/-- A data entry whose byte is acknowledged. -/
theorem moves_dataAcked {b : View} {flags : BitVec 2} {byte : Byte} {rest : List Entry}
    {more : List Bool} (hready : BusReady b) (hls : b.ls = .txWait)
    (hflags : flags.getLsbD 0 = false) (htxf : b.txf = (flags ++ byte : BitVec (2 + 8)) :: rest)
    (hacks : b.acks = true :: more) :
    Moves (List.replicate 2 .bus) b { b with
      txf := rest, acks := more, isr := b.afterPop rest, trace := b.trace ++ [.txb byte true]
      ls := if flags.getLsbD 1 then .stopping false else .txWait } := by
  obtain ⟨hstart, hstop, hbyte⟩ := entry_fields flags byte
  have hpop := turnTo_popData hready hls htxf (hstart.trans hflags)
  rw [hstop, hbyte] at hpop
  exact .cons hpop (.one (turnTo_dataAcked (b := { b with
    txf := rest, isr := b.afterPop rest, ls := .sendData byte (flags.getLsbD 1) }) hready rfl hacks))

/-- The data entries of a write, each byte acknowledged. -/
theorem moves_allDataAcked {b : View} {data : List Byte} {more : List Bool} (hready : BusReady b)
    (hls : b.ls = .txWait) (hne : data ≠ []) (htxf : b.txf = dataEntries data)
    (hacks : b.acks = List.replicate data.length true ++ more) :
    ∃ isr : Byte, isr.getLsbD 1 = b.isr.getLsbD 1 ∧
      Moves (List.replicate (2 * data.length) .bus) b { b with
        txf := [], acks := more, isr := isr, trace := b.trace ++ data.map (fun byte => .txb byte true)
        ls := .stopping false } := by
  induction data generalizing b with
  | nil => exact absurd rfl hne
  | cons byte rest ih =>
    cases rest with
    | nil =>
      exact ⟨_, afterPop_error b [],
        moves_dataAcked (flags := 2#2) hready hls (by decide) htxf hacks⟩
    | cons next rest =>
      have hone := moves_dataAcked (flags := 0#2) hready hls (by decide) htxf
        (more := List.replicate (next :: rest).length true ++ more) hacks
      obtain ⟨isr, hisr, hrest⟩ := ih (b := { b with
        txf := dataEntries (next :: rest)
        acks := List.replicate (next :: rest).length true ++ more
        isr := b.afterPop (dataEntries (next :: rest)), trace := b.trace ++ [.txb byte true]
        ls := .txWait }) hready rfl (by simp) rfl rfl
      refine ⟨isr, hisr.trans (afterPop_error _ _), ?_⟩
      have hmoves := hone.append hrest
      rw [← List.replicate_add] at hmoves
      simp only [List.append_assoc] at hmoves
      rw [List.length_cons (a := byte), show 2 * ((next :: rest).length + 1) =
        2 + 2 * (next :: rest).length by omega]
      exact hmoves

/-- A whole write whose every byte is acknowledged (R217, R218, R221). -/
theorem moves_writeSent {b : View} {address : Address} {data : List Byte} {more : List Bool}
    (hready : BusReady b) (hls : b.ls = .idle) (hfree : b.extBusy = false) (hne : data ≠ [])
    (htxf : b.txf = startEntry address false :: dataEntries data)
    (hacks : b.acks = List.replicate (data.length + 1) true ++ more) :
    ∃ isr : Byte, isr.getLsbD 1 = b.isr.getLsbD 1 ∧
      Moves (List.replicate (2 * data.length + 3) .bus) b { b with
        txf := [], acks := more, isr := isr, ls := .idle
        trace := b.trace ++ [.start, .addr (wireAddress address false) true] ++
          data.map (fun byte => .txb byte true) ++ [.stop] } := by
  have hstart := moves_startAcked hready hls hfree htxf hacks
  obtain ⟨isr, hisr, hdata⟩ := moves_allDataAcked (data := data) (more := more) (b := { b with
    txf := dataEntries data, acks := List.replicate data.length true ++ more
    isr := b.afterPop (dataEntries data)
    trace := b.trace ++ [.start, .addr (wireAddress address false) true], ls := .txWait })
    hready rfl hne rfl rfl
  have hstop := turnTo_stop (halt := false) (b := { b with
    txf := [], acks := more, isr := isr, ls := .stopping false
    trace := b.trace ++ [.start, .addr (wireAddress address false) true] ++
      data.map (fun byte => .txb byte true) }) hready rfl
  refine ⟨isr ||| 0x10#8, ?_, ?_⟩
  · have hbit : (0x10#8 : Byte).getLsbD 1 = false := by decide
    rw [BitVec.getLsbD_or, hbit, Bool.or_false]
    exact hisr.trans (afterPop_error _ _)
  · have hmoves := (hstart.append hdata).snoc hstop
    rw [← List.replicate_add, ← List.replicate_succ'] at hmoves
    rw [show 2 * data.length + 3 = 2 + 2 * data.length + 1 by omega]
    exact hmoves

/-- Settles O39: everything queued, everything sent, and the poll that finds an empty FIFO. -/
theorem acknowledgedWriteDeliversItsBytes : Obligations.AcknowledgedWriteDeliversItsBytes := by
  intro s address count data more ts hwf hlaunch hfits hacks hturns
  obtain ⟨-, href, hfail, hsingle, hfree, -⟩ := id hlaunch
  obtain ⟨hlen, hpos⟩ := writeReg_wf hwf
  have hqueued := moves_written (v := view s) hwf hfail hfree hfits
  obtain ⟨isr, hisr, hsent⟩ := moves_writeSent (b := (view s).written address count data)
    (data := data) (more := more) ⟨rfl, rfl, href, hsingle⟩ rfl hfree
    (List.ne_nil_of_length_pos (hlen ▸ hpos)) rfl (hlen ▸ hacks)
  have hend := moves_writeEnd (b := { (view s).written address count data with
    txf := [], acks := more, isr := isr, ls := .idle
    trace := (view s).trace ++ abortOf (view s).ls ++
      [.start, .addr (wireAddress address false) true] ++
      data.map (fun byte => .txb byte true) ++ [.stop] }) rfl ⟨rfl, hfail⟩ rfl rfl (.inl rfl)
  obtain ⟨t, ht, hview, hrest⟩ := runSteps_launch (n := 3 * count.toNat + 24) rfl hwf hlaunch
    (by rw [hturns, hlen, List.append_assoc, List.append_assoc])
    (by simp only [List.length_append, List.length_replicate]; omega)
    (hqueued.append (hsent.append hend))
  have hres : t.res = { s.res with fail := isr.getLsbD 1 } := congrArg View.res hview
  have hclear : isr.getLsbD 1 = (0x00#8 : Byte).getLsbD 1 := hisr
  rw [hclear, BitVec.getLsbD_zero] at hres
  refine ⟨t, ht, congrArg View.mode hview, hres, congrArg View.cr hview, congrArg View.ls hview,
    congrArg View.txf hview, congrArg View.rxf hview, congrArg View.faults hview,
    (congrArg View.refused hview).trans href, ?_, congrArg View.acks hview, hrest⟩
  have htrace : t.trace = _ ++ abortOf .idle := congrArg View.trace hview
  rw [htrace, show abortOf .idle = [] from rfl, List.append_nil]
  rfl

/-- A start entry whose address byte is not acknowledged (R217, R221). -/
theorem moves_startRefused {b : View} {address : Address} {rest : List Entry} {more : List Bool}
    (hready : BusReady b) (hls : b.ls = .idle) (hfree : b.extBusy = false)
    (htxf : b.txf = startEntry address false :: rest) (hacks : b.acks = false :: more) :
    ∃ isr : Byte, isr.getLsbD 1 = true ∧ Moves (List.replicate 3 .bus) b { b with
      txf := rest, acks := more, isr := isr, ls := .halted
      trace := b.trace ++ [.start, .addr (wireAddress address false) false, .stop] } := by
  obtain ⟨hstart, hstop, hbyte⟩ := startEntry_fields address false
  have hpop := turnTo_popStart hready hls htxf hstart hfree
  rw [hstop, hbyte] at hpop
  have haddr := turnTo_addrRefused (byte := wireAddress address false) (b := { b with
    txf := rest, isr := b.afterPop rest, trace := b.trace ++ [.start]
    ls := .sendAddr (wireAddress address false) false }) hready rfl hacks
  have hhalt := turnTo_stop (halt := true) (b := { b with
    txf := rest, acks := more, isr := b.afterPop rest ||| 0x02#8
    trace := b.trace ++ [.start] ++ [.addr (wireAddress address false) false]
    ls := .stopping true }) hready rfl
  refine ⟨b.afterPop rest ||| 0x02#8 ||| 0x10#8, by simp, ?_⟩
  have hmoves := Moves.cons hpop (.cons haddr (.one hhalt))
  simp only [List.append_assoc] at hmoves
  exact hmoves

/-- Settles O40: the address byte is refused, the line halts, and the poll finds the bus free. -/
theorem unacknowledgedWriteFails : Obligations.UnacknowledgedWriteFails := by
  intro s address count data more ts hwf hlaunch hfits hacks hturns
  obtain ⟨-, href, hfail, hsingle, hfree, -⟩ := id hlaunch
  have hqueued := moves_written (v := view s) hwf hfail hfree hfits
  obtain ⟨isr, hisr, hsent⟩ := moves_startRefused (b := (view s).written address count data)
    ⟨rfl, rfl, href, hsingle⟩ rfl hfree rfl hacks
  have hend := moves_writeEnd (b := { (view s).written address count data with
    txf := dataEntries data, acks := more, isr := isr, ls := .halted
    trace := (view s).trace ++ abortOf (view s).ls ++
      [.start, .addr (wireAddress address false) false, .stop] }) rfl ⟨rfl, hfail⟩ rfl rfl
    (.inr ⟨rfl, hfree⟩)
  obtain ⟨t, ht, hview, -⟩ := runSteps_launch (n := count.toNat + 24) rfl hwf hlaunch
    (by rw [hturns, List.append_assoc, List.append_assoc])
    (by simp only [List.length_append, List.length_replicate])
    (hqueued.append (hsent.append hend))
  have hres : t.res = { s.res with fail := isr.getLsbD 1 } := congrArg View.res hview
  rw [hisr] at hres
  refine ⟨t, ht, congrArg View.mode hview, hres, congrArg View.cr hview, congrArg View.ls hview,
    congrArg View.txf hview, congrArg View.faults hview, ?_⟩
  have htrace : t.trace = _ ++ abortOf .halted := congrArg View.trace hview
  rw [htrace, show abortOf .halted = [] from rfl, List.append_nil]
  rfl

/-- Settles O43: the poll finds an empty FIFO while the byte is on the wire. -/
theorem lenientExitLosesTheLastByte : Obligations.LenientExitLosesTheLastByte := by
  intro s address byte more ts hlaunch hfits hacks hturns
  obtain ⟨-, href, hfail, hsingle, hfree, -⟩ := id hlaunch
  have hwf : (Instr.writeReg address 1#8 [byte]).wf = true := rfl
  have hqueued := moves_written (v := view s) hwf hfail hfree hfits
  have hready : BusReady ((view s).written address 1#8 [byte]) := ⟨rfl, rfl, href, hsingle⟩
  have hstart := moves_startAcked hready rfl hfree rfl hacks
  have hdata := (entry_fields 2#2 byte).1
  have hpop := turnTo_popData (rest := []) (b := { (view s).written address 1#8 [byte] with
      txf := dataEntries [byte], acks := more
      isr := ((view s).written address 1#8 [byte]).afterPop (dataEntries [byte])
      trace := (view s).trace ++ abortOf (view s).ls ++
        [.start, .addr (wireAddress address false) true]
      ls := .txWait }) hready rfl rfl hdata
  obtain ⟨isr, hisr, hsent⟩ : ∃ isr : Byte, isr.getLsbD 1 = (0x00#8 : Byte).getLsbD 1 ∧
      Moves (List.replicate 3 .bus) ((view s).written address 1#8 [byte])
        { (view s).written address 1#8 [byte] with
          txf := [], acks := more, isr := isr
          trace := (view s).trace ++ abortOf (view s).ls ++
            [.start, .addr (wireAddress address false) true]
          ls := .sendData ((2#2 ++ byte : BitVec (2 + 8)).extractLsb' 0 8)
            ((2#2 ++ byte : BitVec (2 + 8)).getLsbD 9) } :=
    ⟨_, (afterPop_error _ _).trans (afterPop_error _ _), hstart.snoc hpop⟩
  have hend := moves_writeEnd (b := { (view s).written address 1#8 [byte] with
      txf := [], acks := more, isr := isr
      trace := (view s).trace ++ abortOf (view s).ls ++
        [.start, .addr (wireAddress address false) true]
      ls := .sendData ((2#2 ++ byte : BitVec (2 + 8)).extractLsb' 0 8)
        ((2#2 ++ byte : BitVec (2 + 8)).getLsbD 9) }) rfl ⟨rfl, hfail⟩ rfl rfl (.inl rfl)
  obtain ⟨t, ht, hview, -⟩ := runSteps_launch (n := 25) rfl hwf hlaunch
    (by rw [hturns, List.append_assoc, List.append_assoc]; rfl) rfl
    (hqueued.append (hsent.append hend))
  have hres : t.res.fail = isr.getLsbD 1 := congrArg (Results.fail ∘ View.res) hview
  rw [hisr, BitVec.getLsbD_zero] at hres
  refine ⟨t, ht, congrArg View.mode hview, hres, congrArg View.txf hview, ?_⟩
  have htrace : t.trace = s.trace ++ abortOf s.ls ++
    [.start, .addr (wireAddress address false) true] ++ [.abort] := congrArg View.trace hview
  rw [htrace]
  simp

end Sys2Proof.Machine
end

section
/-! PROOFS. Whole reads (44_transaction_engine.md sections 4 and 5). -/

namespace Sys2Proof.Machine

/-! ### What a read queues -/

theorem turnTo_g0 {b : View} {address : Address} {count : Byte}
    (hcmd : b.cmd = .readReg address count) (hrun : Running b) (hl : b.upc = .g0) (hroom : Room b) :
    TurnTo .engine b { b with txf := b.txf ++ [startEntry address true], upc := .g1 } := by
  refine .of_push (startEntry address true) hcmd hl hrun hroom rfl rfl fun s hs hat => ?_
  subst hs
  refine ⟨_, (readEnqueueSteps s address 0#8 count).1 hat, fun hpush => ?_⟩
  rw [hpush]
  rfl

theorem turnTo_g1 {b : View} {address : Address} {count : Byte}
    (hcmd : b.cmd = .readReg address count) (hrun : Running b) (hl : b.upc = .g1) (hroom : Room b) :
    TurnTo .engine b { b with
      txf := b.txf ++ [(2#2 ++ count : BitVec (2 + 8))], i := 0#8, upc := .g2 } := by
  refine .of_push (2#2 ++ count : BitVec (2 + 8)) hcmd hl hrun hroom rfl rfl fun s hs hat => ?_
  subst hs
  refine ⟨_, (readEnqueueSteps s address 0#8 count).2.1 hat, fun hpush => ?_⟩
  rw [hpush]
  rfl

section
variable {b : View} {address : Address} {regindex count : Byte}
  (hcmd : b.cmd = .readRegSel address regindex count) (hrun : Running b) (hroom : Room b)
include hcmd hrun hroom

theorem turnTo_s0 (hl : b.upc = .s0) :
    TurnTo .engine b { b with txf := b.txf ++ [startEntry address false], upc := .s1 } := by
  refine .of_push (startEntry address false) hcmd hl hrun hroom rfl rfl fun s hs hat => ?_
  subst hs
  refine ⟨_, (readEnqueueSteps s address regindex count).2.2.1 hat, fun hpush => ?_⟩
  rw [hpush]
  rfl

theorem turnTo_s1 (hl : b.upc = .s1) : TurnTo .engine b { b with
    txf := b.txf ++ [(0#2 ++ regindex : BitVec (2 + 8))], upc := .s2 } := by
  refine .of_push (0#2 ++ regindex : BitVec (2 + 8)) hcmd hl hrun hroom rfl rfl fun s hs hat => ?_
  subst hs
  refine ⟨_, (readEnqueueSteps s address regindex count).2.2.2.1 hat, fun hpush => ?_⟩
  rw [hpush]
  rfl

theorem turnTo_s2 (hl : b.upc = .s2) :
    TurnTo .engine b { b with txf := b.txf ++ [startEntry address true], upc := .s3 } := by
  refine .of_push (startEntry address true) hcmd hl hrun hroom rfl rfl fun s hs hat => ?_
  subst hs
  refine ⟨_, (readEnqueueSteps s address regindex count).2.2.2.2.1 hat, fun hpush => ?_⟩
  rw [hpush]
  rfl

theorem turnTo_s3 (hl : b.upc = .s3) : TurnTo .engine b { b with
    txf := b.txf ++ [(2#2 ++ count : BitVec (2 + 8))], i := 0#8, upc := .s4 } := by
  refine .of_push (2#2 ++ count : BitVec (2 + 8)) hcmd hl hrun hroom rfl rfl fun s hs hat => ?_
  subst hs
  refine ⟨_, (readEnqueueSteps s address regindex count).2.2.2.2.2 hat, fun hpush => ?_⟩
  rw [hpush]
  rfl

end

/-! ### The loop and the epilogue of either read -/

/-- A read with its count and the labels of its poll, its dequeue and its epilogue. -/
inductive ReadLabels : Instr → Byte → Label → Label → Label → Label → Label → Prop
  | plain (address : Address) (count : Byte) :
      ReadLabels (.readReg address count) count .g2 .g3 .g4 .g5 .g6
  | selected (address : Address) (regindex count : Byte) :
      ReadLabels (.readRegSel address regindex count) count .s4 .s5 .s6 .s7 .s8

theorem ReadLabels.loop {i : Instr} {count : Byte} {poll take diag readCr last : Label}
    (h : ReadLabels i count poll take diag readCr last) :
    (∃ address count, i = .readReg address count ∧ (poll, take, diag) = (.g2, .g3, .g4)) ∨
      (∃ address regindex count, i = .readRegSel address regindex count ∧
        (poll, take, diag) = (.s4, .s5, .s6)) := by
  cases h with
  | plain address count => exact .inl ⟨_, _, rfl, rfl⟩
  | selected address regindex count => exact .inr ⟨_, _, _, rfl, rfl⟩

theorem ReadLabels.epilogue {i : Instr} {count : Byte} {poll take diag readCr last : Label}
    (h : ReadLabels i count poll take diag readCr last) :
    (∃ address count, i = .readReg address count ∧ (diag, readCr, last) = (.g4, .g5, .g6)) ∨
      (∃ address regindex count, i = .readRegSel address regindex count ∧
        (diag, readCr, last) = (.s6, .s7, .s8)) := by
  cases h with
  | plain address count => exact .inl ⟨_, _, rfl, rfl⟩
  | selected address regindex count => exact .inr ⟨_, _, _, rfl, rfl⟩

section
variable {b : View} {i : Instr} {count : Byte} {poll take diag readCr last : Label}
  (hread : ReadLabels i count poll take diag readCr last) (hcmd : b.cmd = i) (hrun : Running b)
include hread hcmd hrun

theorem turnTo_receivePoll (hl : b.upc = poll) (hrxf : b.rxf ≠ []) :
    TurnTo .engine b { b with upc := take } := by
  refine .of_exec hcmd hl hrun rfl rfl fun s hs hat hask => ?_
  subst hs
  have hexec := (receiveLoopSteps s i poll take diag hread.loop).1 hat
  rw [hask, if_neg (by exact hrxf)] at hexec
  exact ⟨_, hexec, rfl⟩

theorem turnTo_take {byte : Byte} {rest : List Byte} (hl : b.upc = take) (hrxf : b.rxf = byte :: rest)
    (hi : b.i.toNat < count.toNat) : TurnTo .engine b { b with
      rxf := rest, draws := b.draws + 1
      res := { b.res with data := memWrite b.res.data b.i.toNat byte }
      tmp := ((Config.freeWord b.draws).extractLsb' 8 24 ++ byte : BitVec (24 + 8))
      i := b.i + 1#8, upc := if b.i.toNat + 1 < count.toNat then poll else diag } := by
  refine .of_exec hcmd hl hrun rfl rfl fun s hs hat hask => ?_
  subst hs
  have hrxf : s.rxf = byte :: rest := hrxf
  have hexec : exec i s = .next (dequeueStep count poll diag s) := by
    cases hread with
    | plain address count => rw [exec_readReg_run hat, readRegTable, upc_of_atStep hat]
    | selected address regindex count =>
      rw [exec_readRegSel_run hat, readRegSelTable, upc_of_atStep hat]
  have hword := readRxFifo_word s byte rest hrxf
  refine ⟨_, hexec, ?_⟩
  rw [dequeueStep_ok poll diag (askFail_of_atStep hat) hi, hask, hword]
  simp [view, hrxf, readRxFifo_cons s byte rest hrxf]

theorem turnTo_diag (hl : b.upc = diag) : TurnTo .engine b { b with
    upc := readCr, flags := b.isr, res := { b.res with isr := b.isr } } := by
  refine .of_exec hcmd hl hrun rfl rfl fun s hs hat hask => ?_
  subst hs
  have hexec := (readEpilogueSteps s i diag readCr last hread.epilogue).1 hat
  rw [hask] at hexec
  exact ⟨_, hexec, rfl⟩

theorem turnTo_diagCr {w : Word} (hl : b.upc = readCr) (hcr : b.cr = w) :
    TurnTo .engine b { b with upc := last, tmp := w } := by
  refine .of_exec hcmd hl hrun rfl rfl fun s hs hat hask => ?_
  subst hs hcr
  have hexec := (readEpilogueSteps s i diag readCr last hread.epilogue).2.1 hat
  rw [hask] at hexec
  exact ⟨_, hexec, rfl⟩

theorem turnTo_readLast (hl : b.upc = last) (hcr : b.cr = 0x00000001#32)
    (htmp : b.tmp = 0x00000001#32) : TurnTo .engine b b.disabled := by
  refine .of_exec hcmd hl hrun rfl rfl fun s hs hat hask => ?_
  subst hs
  have hexec := (readEpilogueSteps s i diag readCr last hread.epilogue).2.2 hat
  rw [hask] at hexec
  refine ⟨_, hexec, ?_⟩
  calc view (finish _) = { view (writeCr (setBit s.eng.tmp 0#5 false) s) with mode := .idle } := rfl
    _ = _ := by rw [view_disabled hcr htmp]; rfl

/-- The epilogue (R189). -/
theorem moves_readEnd (hl : b.upc = diag) (hcr : b.cr = 0x00000001#32) :
    Moves (List.replicate 3 .engine) b { b.disabled with
      upc := last, flags := b.isr, tmp := 0x00000001#32, res := { b.res with isr := b.isr } } :=
  .cons (turnTo_diag hread hcmd hrun hl) <|
  .cons (turnTo_diagCr (b := { b with
    upc := readCr, flags := b.isr, res := { b.res with isr := b.isr } }) hread hcmd hrun rfl hcr) <|
  .one (turnTo_readLast (b := { b with
    upc := last, flags := b.isr, tmp := 0x00000001#32, res := { b.res with isr := b.isr } })
    hread hcmd hrun rfl hcr rfl)

/-- One byte: received, seen by the poll, and stored (R188). -/
theorem moves_receiveOne {n : Nat} {byte : Byte} {more : List Byte} (hready : BusReady b)
    (hdepth : 1 ≤ b.params.rxDepth) (hl : b.upc = poll) (hls : b.ls = .rx n) (hrxf : b.rxf = [])
    (hbytes : b.rbytes = byte :: more) (hi : b.i.toNat < count.toNat) :
    Moves [.bus, .engine, .engine] b { b with
      rbytes := more, isr := b.afterRecv, trace := b.trace ++ [.rxb byte (decide (1 < n))]
      ls := if 1 < n then .rx (n - 1) else .stopping false
      draws := b.draws + 1, res := { b.res with data := memWrite b.res.data b.i.toNat byte }
      tmp := ((Config.freeWord b.draws).extractLsb' 8 24 ++ byte : BitVec (24 + 8))
      i := b.i + 1#8, upc := if b.i.toNat + 1 < count.toNat then poll else diag } := by
  have hrecv := turnTo_recv hready hls hrxf hdepth hbytes
  have hpoll := turnTo_receivePoll (b := { b with
    rxf := [byte], rbytes := more, isr := b.afterRecv
    trace := b.trace ++ [.rxb byte (decide (1 < n))]
    ls := if 1 < n then .rx (n - 1) else .stopping false }) hread hcmd hrun hl (by simp)
  have htake := turnTo_take (rest := []) (b := { b with
    rxf := [byte], rbytes := more, isr := b.afterRecv
    trace := b.trace ++ [.rxb byte (decide (1 < n))]
    ls := if 1 < n then .rx (n - 1) else .stopping false, upc := take }) hread hcmd hrun rfl rfl hi
  have hmoves := Moves.cons hrecv (.cons hpoll (.one htake))
  simpa only [hrxf] using hmoves

end

/-- Bytes stored one after the other from `start` on. -/
def Stored (start : Nat) (bytes : List Byte) (before after : Memory) : Prop :=
  ∀ k, memRead after k = if start ≤ k then (bytes[k - start]?).getD (memRead before k)
    else memRead before k

theorem stored_nil (start : Nat) (m : Memory) : Stored start [] m m := fun k => by simp

theorem stored_cons {start : Nat} {byte : Byte} {bytes : List Byte} {m after : Memory}
    (hwf : Memory.wf m) (h : Stored (start + 1) bytes (memWrite m start byte) after) :
    Stored start (byte :: bytes) m after := by
  intro k
  rw [h k, memRead_memWrite m hwf]
  rcases Nat.lt_trichotomy k start with hlt | rfl | hgt
  · rw [if_neg (by omega), if_neg (by omega), if_neg (by omega)]
  · rw [if_neg (by omega), if_pos rfl, if_pos (Nat.le_refl _), Nat.sub_self]
    rfl
  · rw [if_pos (by omega), if_neg (by omega), if_pos (by omega),
      show k - start = (k - (start + 1)) + 1 by omega, List.getElem?_cons_succ]

/-- The receive loop: the bytes the slave sends, each stored at its index (R188, R220). -/
theorem moves_receive {b : View} {i : Instr} {count : Byte} {poll take diag readCr last : Label}
    {bytes more : List Byte} (hread : ReadLabels i count poll take diag readCr last)
    (hcmd : b.cmd = i) (hrun : Running b) (hready : BusReady b) (hdepth : 1 ≤ b.params.rxDepth)
    (hwf : Memory.wf b.res.data) (hne : bytes ≠ []) (hl : b.upc = poll)
    (hls : b.ls = .rx bytes.length) (hrxf : b.rxf = []) (hbytes : b.rbytes = bytes ++ more)
    (hi : b.i.toNat + bytes.length = count.toNat) :
    ∃ (isr : Byte) (data : Memory) (tmp : Word) (j : Byte) (draws : Nat),
      isr.getLsbD 1 = b.isr.getLsbD 1 ∧ Stored b.i.toNat bytes b.res.data data ∧
      Moves (List.replicate bytes.length [Agent.bus, .engine, .engine]).flatten b { b with
        rbytes := more, isr := isr, trace := b.trace ++ receivedEvents bytes, ls := .stopping false
        draws := draws, res := { b.res with data := data }, tmp := tmp, i := j, upc := diag } := by
  induction bytes generalizing b with
  | nil => exact absurd rfl hne
  | cons byte rest ih =>
    have hcount := count.isLt
    rw [List.length_cons] at hi hls
    have hone := moves_receiveOne hread hcmd hrun hready hdepth hl hls hrxf hbytes (by omega)
    cases rest with
    | nil =>
      rw [if_neg (by simp), if_neg (by simp only [List.length_nil] at hi; omega)] at hone
      exact ⟨_, _, _, _, _, afterRecv_error b, stored_cons hwf (stored_nil _ _), hone⟩
    | cons next rest =>
      rw [if_pos (by simp), if_pos (by simp only [List.length_cons] at hi; omega),
        decide_eq_true (by simp)] at hone
      have hindex : (b.i + 1#8).toNat = b.i.toNat + 1 := by
        rw [BitVec.toNat_add, BitVec.toNat_ofNat]
        omega
      obtain ⟨isr, data, tmp, j, draws, hisr, hdata, hrest⟩ := ih (b := { b with
        rbytes := next :: rest ++ more, isr := b.afterRecv, trace := b.trace ++ [.rxb byte true]
        ls := .rx (next :: rest).length
        draws := b.draws + 1, res := { b.res with data := memWrite b.res.data b.i.toNat byte }
        tmp := ((Config.freeWord b.draws).extractLsb' 8 24 ++ byte : BitVec (24 + 8))
        i := b.i + 1#8, upc := poll }) hcmd hrun hready hdepth (memWrite_wf _ hwf _ _) (by simp) rfl
        rfl hrxf rfl (by rw [hindex]; omega)
      rw [hindex] at hdata
      refine ⟨isr, data, tmp, j, draws, hisr.trans (afterRecv_error b), stored_cons hwf hdata, ?_⟩
      have hmoves := hone.append hrest
      rw [List.append_assoc] at hmoves
      rw [List.length_cons (a := byte), List.replicate_succ, List.flatten_cons]
      exact hmoves

/-- The count entry of a read (R215). -/
theorem turnTo_popReadCount {b : View} {count : Byte} (hready : BusReady b)
    (hls : b.ls = .rxCountWait) (htxf : b.txf = [(2#2 ++ count : BitVec (2 + 8))])
    (hcount : count ≠ 0#8) : TurnTo .bus b { b with
      txf := [], isr := b.afterPop [], ls := .rx count.toNat } := by
  obtain ⟨hstart, hstop, hbyte⟩ := entry_fields 2#2 count
  have hpop := turnTo_popCount hready hls htxf hstart hstop (by rwa [hbyte])
  rwa [hbyte] at hpop

/-- From the count entry to the end of either read, the bus side receiving one byte before each poll. -/
theorem moves_readBytes {b : View} {i : Instr} {count : Byte} {poll take diag readCr last : Label}
    {bytes more : List Byte} (hread : ReadLabels i count poll take diag readCr last)
    (hcmd : b.cmd = i) (hrun : Running b) (hready : BusReady b) (hdepth : 1 ≤ b.params.rxDepth)
    (hwf : Memory.wf b.res.data) (hl : b.upc = poll) (hls : b.ls = .rxCountWait)
    (htxf : b.txf = [(2#2 ++ count : BitVec (2 + 8))]) (hcount : count ≠ 0#8) (hrxf : b.rxf = [])
    (hlen : bytes.length = count.toNat) (hbytes : b.rbytes = bytes ++ more) (hi : b.i = 0#8) :
    ∃ (isr : Byte) (data : Memory) (j : Byte) (draws : Nat),
      isr.getLsbD 1 = b.isr.getLsbD 1 ∧ Stored 0 bytes b.res.data data ∧
      Moves (.bus :: ((List.replicate count.toNat [Agent.bus, .engine, .engine]).flatten ++
        (.bus :: List.replicate 3 .engine))) b { b with
          cr := 0x00000000#32, ls := .idle, blocked := false, mode := .idle
          txf := [], rbytes := more, isr := isr, trace := b.trace ++ receivedEvents bytes ++ [.stop]
          draws := draws, res := { b.res with data := data, isr := isr }, tmp := 0x00000001#32
          flags := isr, i := j, upc := last } := by
  have hpop := turnTo_popReadCount hready hls htxf hcount
  have hne : bytes ≠ [] := by
    rintro rfl
    simp only [List.length_nil] at hlen
    bv_omega
  obtain ⟨isr, data, tmp, j, draws, hisr, hdata, hloop⟩ := moves_receive (bytes := bytes)
    (b := { b with txf := [], isr := b.afterPop [], ls := .rx count.toNat }) hread hcmd hrun hready
    hdepth hwf hne hl (by rw [hlen]) hrxf hbytes (by simp [hi, hlen])
  have hstop := turnTo_stop (halt := false) (b := { b with
    txf := [], rbytes := more, isr := isr, trace := b.trace ++ receivedEvents bytes
    ls := .stopping false, draws := draws, res := { b.res with data := data }, tmp := tmp, i := j
    upc := diag }) hready rfl
  have hend := moves_readEnd (b := { b with
    txf := [], rbytes := more, isr := isr ||| 0x10#8
    trace := b.trace ++ receivedEvents bytes ++ [.stop], ls := .idle, draws := draws
    res := { b.res with data := data }, tmp := tmp, i := j, upc := diag }) hread hcmd hrun rfl hready.1
  refine ⟨isr ||| 0x10#8, data, j, draws, ?_, ?_, ?_⟩
  · have hbit : (0x10#8 : Byte).getLsbD 1 = false := by decide
    rw [BitVec.getLsbD_or, hbit, Bool.or_false]
    exact hisr.trans (afterPop_error _ _)
  · simpa [hi] using hdata
  · rw [hlen] at hloop
    have hmoves := Moves.cons hpop (hloop.append (.cons hstop hend))
    simp only [View.disabled, show abortOf .idle = [] from rfl, List.append_nil] at hmoves
    exact hmoves

/-! ### The plain read (44_transaction_engine.md section 4) -/

/-- A plain read up to its poll: address and count queued. -/
theorem moves_readQueued {v : View} {address : Address} {count : Byte}
    (hfail : v.params.accessCanFail = false) (hfree : v.extBusy = false)
    (hdepth : 2 ≤ v.params.txDepth) :
    Moves (List.replicate 17 .engine) (v.admitted (.readReg address count))
      { v.ready (.readReg address count) with
        txf := [startEntry address true, (2#2 ++ count : BitVec (2 + 8))], i := 0#8, upc := .g2 } := by
  have hready := moves_ready (i := .readReg address count) (.head _) (by simp) hfail hfree
  have hg0 := turnTo_g0 (b := v.ready (.readReg address count)) rfl ⟨rfl, hfail⟩ rfl
    ⟨rfl, Nat.lt_of_lt_of_le (show 0 < 2 by decide) hdepth⟩
  have hg1 := turnTo_g1 (b := { v.ready (.readReg address count) with
    txf := [startEntry address true], upc := .g1 }) rfl ⟨rfl, hfail⟩ rfl ⟨rfl, hdepth⟩
  exact (hready.snoc hg0).snoc hg1

theorem flatten_replicate_length (n : Nat) :
    (List.replicate n [Agent.bus, .engine, .engine]).flatten.length = 3 * n := by
  induction n with
  | zero => rfl
  | succ n ih =>
    rw [List.replicate_succ, List.flatten_cons, List.length_append, ih]
    simp only [List.length_cons, List.length_nil]
    omega

theorem receive_count_ne {i : Instr} {count : Byte} {poll take diag readCr last : Label}
    (hread : ReadLabels i count poll take diag readCr last) (hwf : i.wf = true) : count ≠ 0#8 := by
  cases hread <;> simpa [Instr.wf, countOk] using hwf

/-- Settles O41: address and count queued and taken, then the bytes. -/
theorem plainReadDeliversItsBytes : Obligations.PlainReadDeliversItsBytes := by
  intro s address count bytes moreBytes moreAcks ts hwf hlaunch htx hrx hdata hlen hbytes hacks hturns
  obtain ⟨-, href, hfail, hsingle, hfree, -⟩ := id hlaunch
  have hread := ReadLabels.plain address count
  have hqueued := moves_readQueued (v := view s) (address := address) (count := count) hfail hfree htx
  have hready : BusReady ((view s).ready (.readReg address count)) := ⟨rfl, rfl, href, hsingle⟩
  have hstart := moves_startAcked (read := true) (b := { (view s).ready (.readReg address count) with
    txf := [startEntry address true, (2#2 ++ count : BitVec (2 + 8))], i := 0#8, upc := .g2 })
    hready rfl hfree rfl hacks
  obtain ⟨isr, data, j, draws, hisr, hstored, hrest⟩ := moves_readBytes (bytes := bytes)
    (more := moreBytes) (b := { (view s).ready (.readReg address count) with
      txf := [(2#2 ++ count : BitVec (2 + 8))], acks := moreAcks, i := 0#8, upc := .g2
      isr := View.afterPop { (view s).ready (.readReg address count) with
        txf := [startEntry address true, (2#2 ++ count : BitVec (2 + 8))], i := 0#8, upc := .g2 }
        [(2#2 ++ count : BitVec (2 + 8))]
      trace := (view s).trace ++ abortOf (view s).ls ++
        [.start, .addr (wireAddress address true) true]
      ls := .rxCountWait }) hread rfl ⟨rfl, hfail⟩ hready hrx hdata rfl rfl rfl
    (receive_count_ne hread hwf) rfl hlen hbytes rfl
  obtain ⟨t, ht, hview, -⟩ := runSteps_launch (n := 3 * count.toNat + 25) rfl hwf hlaunch
    (by rw [hturns]; simp only [List.append_assoc, List.cons_append]; rfl)
    (by
      simp only [List.length_append, List.length_cons, List.length_replicate,
        flatten_replicate_length]
      omega)
    (hqueued.append (hstart.append hrest))
  have hclear : isr.getLsbD 1 = (0x00#8 : Byte).getLsbD 1 := hisr.trans (afterPop_error _ _)
  have hisrNow : t.isr = isr := congrArg View.isr hview
  have hres : t.res = { s.res with data := data, isr := isr } := congrArg View.res hview
  refine ⟨t, ht, congrArg View.mode hview, congrArg View.cr hview, congrArg View.ls hview,
    congrArg View.txf hview, congrArg View.rxf hview, fun k => ?_, by rw [hres], by rw [hres, hisrNow],
    by rw [hisrNow, hclear, BitVec.getLsbD_zero], congrArg View.faults hview,
    congrArg View.trace hview⟩
  rw [hres]
  exact (hstored k).trans (if_pos (Nat.zero_le k))

/-! ### The combined read (44_transaction_engine.md section 5) -/

/-- The four entries of a combined read (R190). -/
def selectEntries (address : Address) (regindex count : Byte) : List Entry :=
  [startEntry address false, (0#2 ++ regindex : BitVec (2 + 8)), startEntry address true,
    (2#2 ++ count : BitVec (2 + 8))]

theorem moves_selectQueued {v : View} {address : Address} {regindex count : Byte}
    (hfail : v.params.accessCanFail = false) (hfree : v.extBusy = false)
    (hdepth : 4 ≤ v.params.txDepth) :
    Moves (List.replicate 19 .engine) (v.admitted (.readRegSel address regindex count))
      { v.ready (.readRegSel address regindex count) with
        txf := selectEntries address regindex count, i := 0#8, upc := .s4 } := by
  have hready := moves_ready (i := .readRegSel address regindex count) (.head _) (by simp) hfail hfree
  have hs0 := turnTo_s0 (b := v.ready (.readRegSel address regindex count)) rfl ⟨rfl, hfail⟩
    ⟨rfl, Nat.lt_of_lt_of_le (show 0 < 4 by decide) hdepth⟩ rfl
  have hs1 := turnTo_s1 (b := { v.ready (.readRegSel address regindex count) with
    txf := [startEntry address false], upc := .s1 }) rfl ⟨rfl, hfail⟩
    ⟨rfl, Nat.lt_of_lt_of_le (show 1 < 4 by decide) hdepth⟩ rfl
  have hs2 := turnTo_s2 (b := { v.ready (.readRegSel address regindex count) with
    txf := [startEntry address false, (0#2 ++ regindex : BitVec (2 + 8))], upc := .s2 }) rfl
    ⟨rfl, hfail⟩ ⟨rfl, Nat.lt_of_lt_of_le (show 2 < 4 by decide) hdepth⟩ rfl
  have hs3 := turnTo_s3 (b := { v.ready (.readRegSel address regindex count) with
    txf := [startEntry address false, (0#2 ++ regindex : BitVec (2 + 8)), startEntry address true]
    upc := .s3 }) rfl ⟨rfl, hfail⟩ ⟨rfl, hdepth⟩ rfl
  exact (((hready.snoc hs0).snoc hs1).snoc hs2).snoc hs3

/-- A repeated start whose address byte is acknowledged (R213, R217). -/
theorem moves_repStartAcked {b : View} {address : Address} {read : Bool} {rest : List Entry}
    {more : List Bool} (hready : BusReady b) (hls : b.ls = .txWait)
    (htxf : b.txf = startEntry address read :: rest) (hacks : b.acks = true :: more) :
    Moves (List.replicate 2 .bus) b { b with
      txf := rest, acks := more, isr := b.afterPop rest
      trace := b.trace ++ [.rstart, .addr (wireAddress address read) true]
      ls := if read then .rxCountWait else .txWait } := by
  obtain ⟨hstart, hstop, hbyte⟩ := startEntry_fields address read
  have hpop := turnTo_popRepStart hready hls htxf hstart
  rw [hstop, hbyte] at hpop
  have haddr := turnTo_addrAcked (byte := wireAddress address read) (b := { b with
    txf := rest, isr := b.afterPop rest, trace := b.trace ++ [.rstart]
    ls := .sendAddr (wireAddress address read) false }) hready rfl hacks
  rw [wireAddress_read] at haddr
  have hmoves := Moves.cons hpop (.one haddr)
  simp only [List.append_assoc] at hmoves
  exact hmoves

/-- The select of the index and the repeated start for reading. -/
theorem moves_selectAcked {b : View} {address : Address} {regindex count : Byte} {more : List Bool}
    (hready : BusReady b) (hls : b.ls = .idle) (hfree : b.extBusy = false)
    (htxf : b.txf = selectEntries address regindex count)
    (hacks : b.acks = true :: true :: true :: more) :
    ∃ isr : Byte, isr.getLsbD 1 = b.isr.getLsbD 1 ∧ Moves (List.replicate 6 .bus) b { b with
      txf := [(2#2 ++ count : BitVec (2 + 8))], acks := more, isr := isr
      trace := b.trace ++ [.start, .addr (wireAddress address false) true, .txb regindex true, .rstart,
        .addr (wireAddress address true) true]
      ls := .rxCountWait } := by
  have hstart := moves_startAcked hready hls hfree htxf hacks
  have hindex := moves_dataAcked (flags := 0#2) (byte := regindex) (more := true :: more)
    (rest := [startEntry address true, (2#2 ++ count : BitVec (2 + 8))])
    (b := { b with
      txf := (selectEntries address regindex count).tail, acks := true :: true :: more
      isr := b.afterPop (selectEntries address regindex count).tail
      trace := b.trace ++ [.start, .addr (wireAddress address false) true], ls := .txWait })
    hready rfl (by decide) rfl rfl
  obtain ⟨isr, hisr, hselect⟩ : ∃ isr : Byte, isr.getLsbD 1 = b.isr.getLsbD 1 ∧
      Moves (List.replicate 4 .bus) b { b with
        txf := [startEntry address true, (2#2 ++ count : BitVec (2 + 8))], acks := true :: more
        isr := isr
        trace := b.trace ++ [.start, .addr (wireAddress address false) true] ++ [.txb regindex true]
        ls := .txWait } :=
    ⟨_, (afterPop_error _ _).trans (afterPop_error _ _), hstart.append hindex⟩
  have hrep := moves_repStartAcked (read := true) (more := more) (b := { b with
    txf := [startEntry address true, (2#2 ++ count : BitVec (2 + 8))], acks := true :: more
    isr := isr
    trace := b.trace ++ [.start, .addr (wireAddress address false) true] ++ [.txb regindex true]
    ls := .txWait }) hready rfl rfl rfl
  have hmoves := hselect.append hrep
  simp only [List.append_assoc] at hmoves
  refine ⟨_, ?_, hmoves⟩
  exact (afterPop_error _ _).trans hisr

/-- Settles O42: the four entries queued, index and address taken, then the bytes. -/
theorem selectedReadDeliversItsBytes : Obligations.SelectedReadDeliversItsBytes := by
  intro s address regindex count bytes moreBytes moreAcks ts hwf hlaunch htx hrx hdata hlen hbytes
    hacks hturns
  obtain ⟨-, href, hfail, hsingle, hfree, -⟩ := id hlaunch
  have hread := ReadLabels.selected address regindex count
  have hqueued := moves_selectQueued (v := view s) (address := address) (regindex := regindex)
    (count := count) hfail hfree htx
  have hready : BusReady ((view s).ready (.readRegSel address regindex count)) :=
    ⟨rfl, rfl, href, hsingle⟩
  obtain ⟨isr₀, hisr₀, hselect⟩ := moves_selectAcked
    (b := { (view s).ready (.readRegSel address regindex count) with
      txf := selectEntries address regindex count, i := 0#8, upc := .s4 }) hready rfl hfree rfl hacks
  obtain ⟨isr, data, j, draws, hisr, hstored, hrest⟩ := moves_readBytes (bytes := bytes)
    (more := moreBytes) (b := { (view s).ready (.readRegSel address regindex count) with
      txf := [(2#2 ++ count : BitVec (2 + 8))], acks := moreAcks, i := 0#8, upc := .s4
      isr := isr₀
      trace := (view s).trace ++ abortOf (view s).ls ++ [.start, .addr (wireAddress address false) true,
        .txb regindex true, .rstart, .addr (wireAddress address true) true]
      ls := .rxCountWait }) hread rfl ⟨rfl, hfail⟩ hready hrx hdata rfl rfl rfl
    (receive_count_ne hread hwf) rfl hlen hbytes rfl
  obtain ⟨t, ht, hview, -⟩ := runSteps_launch (n := 3 * count.toNat + 31) rfl hwf hlaunch
    (by rw [hturns]; simp only [List.append_assoc, List.cons_append]; rfl)
    (by
      simp only [List.length_append, List.length_cons, List.length_replicate,
        flatten_replicate_length]
      omega)
    (hqueued.append (hselect.append hrest))
  have hclear : isr.getLsbD 1 = (0x00#8 : Byte).getLsbD 1 := hisr.trans hisr₀
  have hisrNow : t.isr = isr := congrArg View.isr hview
  have hres : t.res = { s.res with data := data, isr := isr } := congrArg View.res hview
  refine ⟨t, ht, congrArg View.mode hview, congrArg View.cr hview, congrArg View.ls hview,
    congrArg View.txf hview, congrArg View.rxf hview, fun k => ?_, by rw [hres], by rw [hres, hisrNow],
    by rw [hisrNow, hclear, BitVec.getLsbD_zero], congrArg View.faults hview,
    congrArg View.trace hview⟩
  rw [hres]
  exact (hstored k).trans (if_pos (Nat.zero_le k))

end Sys2Proof.Machine
end
